-- ==== Sys2Proof/Word.lean ====
section
/-! DEFINITION. The words of the ZR-316: the bit-vector types that the manual itself treats as bits (bytes on a link, sequences,
Bay Clock values, saturating counters, addresses), and nothing else. -/

namespace Sys2Proof

/-- One byte of a frame or of the settings memory. -/
abbrev Byte := BitVec 8

/-- A 16-bit field: a frame type, a TAG_TYPE, a key word. -/
abbrev Word16 := BitVec 16

/-- A tag sequence, counted modulo 65536 (section "Conventions" of 00_scope.md). -/
abbrev Seq := BitVec 16

/-- A Bay Clock value in microseconds, counted modulo 2^32 (R176). -/
abbrev Time := BitVec 32

/-- A 32-bit event counter; it saturates (section "Conventions" of 00_scope.md). -/
abbrev Counter := BitVec 32

/-- A 48-bit station address; its first byte on the link is the most significant one here. -/
abbrev Addr := BitVec 48

/-- The origin field of a tag, 0 to 4095 (R1); 1 to 4000 are valid. -/
abbrev Origin := BitVec 12

/-- The largest value of a counter. -/
def Counter.top : Counter := 4294967295#32

end Sys2Proof
end

