-- ==== Sys2Proof/Config.lean ====
section
/-! DEFINITION. What the ZR-316 fixes by number, and the free values: constants without a body for what the manual leaves open.
Nothing can be proved about a free value, so a claim holds whatever the part does there. -/

namespace Sys2Proof.Config

/-- Entries of the Stream Table (section 2.1). -/
abbrev nEntries : Nat := 512
/-- Buffers of the pool (section 5.1). -/
abbrev nBuffers : Nat := 448
/-- Publication channels (section 8). -/
abbrev nChannels : Nat := 8
/-- Trip input lines (section 9). -/
abbrev nInputs : Nat := 4
/-- The trip reserve: free buffers kept for trip frames and templates (R85). -/
abbrev reserve : Nat := 32
/-- The free count at which a LOW pool is AMPLE again (R87). -/
abbrev ampleAgain : Nat := 65
/-- Places of an urgent queue, of a line or of a client port (section 1.4, R94). -/
abbrev urgentPlaces : Nat := 32
/-- Places of a routine queue, of a line or of a client port (section 1.4, R94). -/
abbrev routinePlaces : Nat := 128
/-- Places of a reply lane (R97). -/
abbrev lanePlaces : Nat := 16
/-- Members of a subscription list (R117). -/
abbrev listPlaces : Nat := 96
/-- Proposals of the proposal list (R159). -/
abbrev proposalPlaces : Nat := 8
/-- The life of a proposal in milliseconds (R159). -/
abbrev proposalLife : Nat := 2000
/-- The furthest back distance that the window reaches (R45). -/
abbrev windowReach : Nat := 63
/-- The stale run value at which an arrival resyncs (R50). -/
abbrev resyncRun : Nat := 8

/-- FREE VALUE (log entry 3). The order of things that the manual does not order against one another within one step or at one
Bay Clock value: `tieKey k j` is the rank of the `j`-th of them, for the `k`-th such choice since reset. -/
opaque tieKey : Nat → Nat → Nat

/-- FREE VALUE (log entry 4). The reserved bytes of a REPLY and of a NOTICE, by offset: R178 names them and gives no value. -/
opaque reservedByte : Nat → Byte

/-- FREE VALUE (log entry 5). What stands in the unused slots of a CLASS_MAP value that the part builds (R178 gives none). -/
opaque unusedSlot : Nat → Word16

/-- FREE VALUE (log entry 5). The order in which the part lists the members of a CLASS_MAP set in a value that it builds. -/
opaque slotRank : Word16 → Nat

/-- FREE VALUE (log entry 6). The rest of a REPLY body for a channel number outside 0 to 7: R130 wants the channel's state there,
and there is no channel. Of these bytes a REPLY carries at most as many as its body has room for (R177). -/
opaque noChannelBody : Byte → List Byte

end Sys2Proof.Config
end

