-- ==== Sys2Proof/Syntax.lean ====
section
/-! DEFINITION. The commands of the ZR-316: one constructor of `Instr` for each row of spec/opcode_table.json, and the names
(lines, ports, classes, triggers, setting items) that their operands use. A client's command comes in a control frame; its row
carries the port, the source address and token of that frame, and the command's fields as R178 lays them out. -/

namespace Sys2Proof

/-- One of the two station networks and its port. -/
inductive Line | a | b
  deriving DecidableEq, Repr

/-- A client port. -/
inductive Port | cp1 | cp2 | cp3
  deriving DecidableEq, Repr

/-- A traffic class (section 1.1). -/
inductive Cls | general | sampled | trip
  deriving DecidableEq, Repr

/-- What starts the bursts of a channel: TRIGGER(c) of section 10.1. -/
inductive Trigger
  | command
  | edge (n : Fin Config.nInputs)
  | level (n : Fin Config.nInputs)
  deriving DecidableEq, Repr

/-- A setting item with its index (section 10.1). -/
inductive Item
  | origin (p : Port)
  | address (p : Port)
  | attend (p : Port)
  | tagType
  | controlType
  | classMap
  | settle
  | forget
  | owner (c : Fin Config.nChannels)
  | trigger (c : Fin Config.nChannels)
  | filter (n : Fin Config.nInputs)
  | restart
  deriving DecidableEq, Repr

/-- A command as its control frame carries it (R178): the code and the fields, `data` being the frame's data from the offset of
the template or of the value to its end. `unknown` is a code that R178 does not list. -/
inductive Command
  | hello (fresh : Bool)
  | keep
  | restartPort
  | subscribe (key : Word16) (hold : BitVec 32)
  | unsubscribe (key : Word16)
  | load (chan : Byte) (tmin tmax n len : Word16) (data : List Byte)
  | start (chan : Byte)
  | stop (chan : Byte)
  | replace (chan : Byte) (len : Word16) (data : List Byte)
  | chain (chan : Byte) (tmin tmax n len : Word16) (data : List Byte)
  | clear (chan : Byte)
  | propose (item index : Byte) (len : Word16) (data : List Byte)
  | withdraw (item index : Byte)
  | enable (causes : Word16)
  | ack (cause : Byte)
  | query (kind arg1 arg2 : Byte)
  | unknown (code : Byte)
  deriving DecidableEq, Repr

/-- The commands of the block, one constructor for each row of the table. -/
inductive Instr
  /-- POWER_ON (R166); `raw` are the contact levels as they first stand, IN0 first (R151). -/
  | powerOn (raw : Vector Bool Config.nInputs)
  /-- IMAGE_READ_COMPLETION (R157); what the settings memory gave: its bytes from the first one, or no answer. -/
  | imageReadCompletion (memory : Option (List Byte))
  /-- LINE_FRAME_COMPLETION (R2); the whole frame as received, frame check included. -/
  | lineFrameCompletion (l : Line) (frame : List Byte)
  /-- LINE_LINK_UP (R10). -/
  | lineLinkUp (l : Line)
  /-- SETTLE_TIMER_EXPIRY (R11). -/
  | settleTimerExpiry (l : Line)
  /-- LINE_LINK_LOSS (R12). -/
  | lineLinkLoss (l : Line)
  /-- LINE_TRANSMISSION_COMPLETION (R15). -/
  | lineTransmissionCompletion (l : Line)
  /-- LINE_DEADLINE_EXPIRY (R67) of entry `e` on line `l`. -/
  | lineDeadlineExpiry (e : Fin Config.nEntries) (l : Line)
  /-- LOCAL_DEADLINE_EXPIRY (R73) of entry `e`. -/
  | localDeadlineExpiry (e : Fin Config.nEntries)
  /-- FORGET_DEADLINE_EXPIRY (R36) of entry `e`. -/
  | forgetDeadlineExpiry (e : Fin Config.nEntries)
  /-- CLIENT_LINK_UP (R102). -/
  | clientLinkUp (p : Port)
  /-- CLIENT_LINK_LOSS (R108). -/
  | clientLinkLoss (p : Port)
  /-- CLIENT_FRAME_COMPLETION (R103); the whole frame as received, frame check included. -/
  | clientFrameCompletion (p : Port) (frame : List Byte)
  /-- CLIENT_TRANSMISSION_COMPLETION (R99). -/
  | clientTransmissionCompletion (p : Port)
  /-- ATTENDANCE_WINDOW_EXPIRY (R106). -/
  | attendanceWindowExpiry (p : Port)
  /-- HELLO (R105), code 01. -/
  | hello (p : Port) (src : Addr) (token : BitVec 32) (fresh : Bool)
  /-- KEEP (R104), code 02. -/
  | keep (p : Port) (src : Addr) (token : BitVec 32)
  /-- RESTART_PORT (R109), code 03. -/
  | restartPort (p : Port) (src : Addr) (token : BitVec 32)
  /-- SUBSCRIBE (R118), code 04. -/
  | subscribe (p : Port) (src : Addr) (token : BitVec 32) (key : Word16) (hold : BitVec 32)
  /-- UNSUBSCRIBE (R122), code 05. -/
  | unsubscribe (p : Port) (src : Addr) (token : BitVec 32) (key : Word16)
  /-- LOAD (R132), code 06; `data` from offset 30. -/
  | load (p : Port) (src : Addr) (token : BitVec 32) (chan : Byte) (tmin tmax n len : Word16) (data : List Byte)
  /-- START (R142), code 07. -/
  | start (p : Port) (src : Addr) (token : BitVec 32) (chan : Byte)
  /-- STOP (R143), code 08. -/
  | stop (p : Port) (src : Addr) (token : BitVec 32) (chan : Byte)
  /-- REPLACE (R133), code 09; `data` from offset 30. -/
  | replace (p : Port) (src : Addr) (token : BitVec 32) (chan : Byte) (len : Word16) (data : List Byte)
  /-- CHAIN (R134), code 0A; `data` from offset 30. -/
  | chain (p : Port) (src : Addr) (token : BitVec 32) (chan : Byte) (tmin tmax n len : Word16) (data : List Byte)
  /-- CLEAR (R135), code 0B. -/
  | clear (p : Port) (src : Addr) (token : BitVec 32) (chan : Byte)
  /-- SEND_TIME_EXPIRY (R139) of channel `c`. -/
  | sendTimeExpiry (c : Fin Config.nChannels)
  /-- RAW_LEVEL_CHANGE (R149) of input line `n` to `level`. -/
  | rawLevelChange (n : Fin Config.nInputs) (level : Bool)
  /-- PENDING_CHANGE_EXPIRY (R150) of input line `n`. -/
  | pendingChangeExpiry (n : Fin Config.nInputs)
  /-- PROPOSE (R159), code 0C; `data` from offset 24. -/
  | propose (p : Port) (src : Addr) (token : BitVec 32) (item index : Byte) (len : Word16) (data : List Byte)
  /-- PROPOSAL_EXPIRY (R160) of the proposal for `item`. -/
  | proposalExpiry (item : Item)
  /-- WITHDRAW (R161), code 0D. -/
  | withdraw (p : Port) (src : Addr) (token : BitVec 32) (item index : Byte)
  /-- ENABLE (R174), code 0E. -/
  | enable (p : Port) (src : Addr) (token : BitVec 32) (causes : Word16)
  /-- ACK (R172), code 0F. -/
  | ack (p : Port) (src : Addr) (token : BitVec 32) (cause : Byte)
  /-- QUERY (R175), code 10; the bytes at offsets 20, 21 and 22. -/
  | query (p : Port) (src : Addr) (token : BitVec 32) (kind arg1 arg2 : Byte)
  deriving DecidableEq, Repr

end Sys2Proof
end

