-- ==== Sys2Proof/WellFormed.lean ====
section
/-! DEFINITION. Which commands a client's control frame can carry. A control frame is 64 to 1516 bytes long, frame check included
(R103, R168), so the data behind the fixed fields of LOAD, REPLACE, CHAIN and PROPOSE has a least and a greatest length. Every
other operand is well formed by its type. The meanings are total: they do not ask for well-formedness. -/

namespace Sys2Proof

/-- The data of a frame behind offset `off`: the frame is 64 to 1516 bytes with its four-byte frame check (R103). -/
def dataFits (off : Nat) (data : List Byte) : Bool :=
  decide (60 ≤ off + data.length) && decide (off + data.length ≤ 1512)

/-- A command that a control frame can carry: its data fits a client frame, and an unlisted code is none of the sixteen (R178). -/
def Command.wf : Command → Bool
  | .load _ _ _ _ _ data => dataFits 30 data
  | .replace _ _ data => dataFits 30 data
  | .chain _ _ _ _ _ data => dataFits 30 data
  | .propose _ _ _ data => dataFits 24 data
  | .unknown code => code = 0 || decide (16 < code.toNat)
  | _ => true

/-- A well-formed command of the block. -/
def Instr.wf : Instr → Bool
  | .load _ _ _ _ _ _ _ _ data => dataFits 30 data
  | .replace _ _ _ _ _ data => dataFits 30 data
  | .chain _ _ _ _ _ _ _ _ data => dataFits 30 data
  | .propose _ _ _ _ _ _ data => dataFits 24 data
  | _ => true

end Sys2Proof
end

