-- ==== Sys2Proof/Decode.lean ====
section
/-! DEFINITION. Reading frames and commands from bytes. The rows of spec/opcode_table.json give no bits, so `decodeTableWord`
spells none. A client's command does come as bytes, in a control frame: `decodeControl` reads one by the layout of R178, and
`encodeControl` writes one, from the same tables. Multi-byte fields are most significant byte first (R177). -/

namespace Sys2Proof

/-- The command that a word spells by the table's bits: the table gives no row any bits. -/
def decodeTableWord (_nbits _w : Nat) : Option Instr := none

/-! ## Bytes and fields (R177) -/

/-- Two bytes as a field, most significant first. -/
def be16 (hi lo : Byte) : Word16 := hi ++ lo

/-- Four bytes as a field, most significant first. -/
def be32 (b0 b1 b2 b3 : Byte) : BitVec 32 := b0 ++ b1 ++ b2 ++ b3

/-- Six bytes as an address, first byte most significant. -/
def be48 (b0 b1 b2 b3 b4 b5 : Byte) : Addr := b0 ++ b1 ++ b2 ++ b3 ++ b4 ++ b5

/-- A 16-bit field as bytes. -/
def bytes16 (w : Word16) : List Byte := [w.extractLsb' 8 8, w.extractLsb' 0 8]

/-- A 32-bit field as bytes. -/
def bytes32 (w : BitVec 32) : List Byte :=
  [w.extractLsb' 24 8, w.extractLsb' 16 8, w.extractLsb' 8 8, w.extractLsb' 0 8]

/-- An address as bytes. -/
def bytes48 (w : Addr) : List Byte :=
  [w.extractLsb' 40 8, w.extractLsb' 32 8, w.extractLsb' 24 8, w.extractLsb' 16 8, w.extractLsb' 8 8, w.extractLsb' 0 8]

/-- The byte at an offset; every offset that is read lies inside the frame (R168), and past its end a byte counts as 0. -/
def byteAt (f : List Byte) (off : Nat) : Byte := f.getD off 0

/-- The 16-bit field at an offset. -/
def half (f : List Byte) (off : Nat) : Word16 := be16 (byteAt f off) (byteAt f (off + 1))

/-- The 32-bit field at an offset. -/
def word (f : List Byte) (off : Nat) : BitVec 32 :=
  be32 (byteAt f off) (byteAt f (off + 1)) (byteAt f (off + 2)) (byteAt f (off + 3))

/-- The address at an offset. -/
def addrAt (f : List Byte) (off : Nat) : Addr :=
  be48 (byteAt f off) (byteAt f (off + 1)) (byteAt f (off + 2)) (byteAt f (off + 3)) (byteAt f (off + 4)) (byteAt f (off + 5))

/-- The value of a run of bytes, most significant first. -/
def beNat : List Byte → Nat
  | [] => 0
  | b :: bs => b.toNat * 256 ^ bs.length + beNat bs

/-! ## The fields of every frame (R103, R177) -/

/-- Destination address of a frame. -/
def frameDst (f : List Byte) : Addr := addrAt f 0

/-- Source address of a frame. -/
def frameSrc (f : List Byte) : Addr := addrAt f 6

/-- The type of a frame: the two bytes after the source address. -/
def frameType (f : List Byte) : Word16 := half f 12

/-- The group bit of the destination: the least significant bit of its first byte (R91). -/
def isMulticast (dst : Addr) : Bool := dst.getLsbD 40

/-! ## The key word (R177) -/

/-- The class that a two-bit field names; 3 names none. -/
def clsOfBits (w : BitVec 2) : Option Cls :=
  if w = 0#2 then some .general else if w = 1#2 then some .sampled else if w = 2#2 then some .trip else none

/-- The two-bit code of a class. -/
def Cls.bits : Cls → BitVec 2
  | .general => 0#2
  | .sampled => 1#2
  | .trip => 2#2

/-- The origin field of a key word: bits 15 to 4. -/
def keyOrigin (w : Word16) : Origin := w.extractLsb' 4 12

/-- An origin that a tag or a key may carry: 1 to 4000 (R1, R4). -/
def validOrigin (o : Origin) : Bool := decide (o ≠ 0) && decide (o.toNat ≤ 4000)

/-- The class field of a key word: bits 3 and 2. -/
def keyClass (w : Word16) : Option Cls := clsOfBits (w.extractLsb' 2 2)

/-- The line bit of the second tag word: bit 1 (R177). -/
def keyLine (w : Word16) : Line := if w.getLsbD 1 then .b else .a

/-- The second tag word: origin, class, line and a spare bit of 0 (R1, R177). -/
def tagWord (o : Origin) (c : Cls) (l : Line) : Word16 :=
  o ++ c.bits ++ (match l with | .a => 0#2 | .b => 2#2)

/-- The key word of a stream: the tag word with line and spare at 0 (R177). -/
def keyWord (o : Origin) (c : Cls) : Word16 := tagWord o c .a

/-! ## Control frames (R178) -/

/-- The command code of R178. -/
def Command.code : Command → Byte
  | .hello _ => 0x01#8
  | .keep => 0x02#8
  | .restartPort => 0x03#8
  | .subscribe _ _ => 0x04#8
  | .unsubscribe _ => 0x05#8
  | .load .. => 0x06#8
  | .start _ => 0x07#8
  | .stop _ => 0x08#8
  | .replace .. => 0x09#8
  | .chain .. => 0x0A#8
  | .clear _ => 0x0B#8
  | .propose .. => 0x0C#8
  | .withdraw .. => 0x0D#8
  | .enable _ => 0x0E#8
  | .ack _ => 0x0F#8
  | .query .. => 0x10#8
  | .unknown c => c

/-- The command of a control frame, by its code at offset 14 and its fields from offset 20 (R178); `f` is the frame's data. -/
def decodeCommand (f : List Byte) : Command :=
  let code := byteAt f 14
  if code = 0x01#8 then .hello ((byteAt f 20).getLsbD 0)
  else if code = 0x02#8 then .keep
  else if code = 0x03#8 then .restartPort
  else if code = 0x04#8 then .subscribe (half f 20) (word f 22)
  else if code = 0x05#8 then .unsubscribe (half f 20)
  else if code = 0x06#8 then .load (byteAt f 20) (half f 22) (half f 24) (half f 26) (half f 28) (f.drop 30)
  else if code = 0x07#8 then .start (byteAt f 20)
  else if code = 0x08#8 then .stop (byteAt f 20)
  else if code = 0x09#8 then .replace (byteAt f 20) (half f 28) (f.drop 30)
  else if code = 0x0A#8 then .chain (byteAt f 20) (half f 22) (half f 24) (half f 26) (half f 28) (f.drop 30)
  else if code = 0x0B#8 then .clear (byteAt f 20)
  else if code = 0x0C#8 then .propose (byteAt f 20) (byteAt f 21) (half f 22) (f.drop 24)
  else if code = 0x0D#8 then .withdraw (byteAt f 20) (byteAt f 21)
  else if code = 0x0E#8 then .enable (half f 20)
  else if code = 0x0F#8 then .ack (byteAt f 20)
  else if code = 0x10#8 then .query (byteAt f 20) (byteAt f 21) (byteAt f 22)
  else .unknown code

/-- Source address, token and command of a control frame; `f` is the frame's data (the frame less its frame check, R168). -/
def decodeControl (f : List Byte) : Addr × BitVec 32 × Command := (frameSrc f, word f 16, decodeCommand f)

/-- The fields of a command from offset 20 on; reserved bytes and bits are written as 0 (the part ignores them, R168). -/
def Command.fields : Command → List Byte
  | .hello fresh => [if fresh then 1#8 else 0#8]
  | .keep | .restartPort | .unknown _ => []
  | .subscribe key hold => bytes16 key ++ bytes32 hold
  | .unsubscribe key => bytes16 key
  | .load c tmin tmax n len data => [c, 0#8] ++ bytes16 tmin ++ bytes16 tmax ++ bytes16 n ++ bytes16 len ++ data
  | .start c | .stop c | .clear c => [c]
  | .replace c len data => [c, 0#8, 0#8, 0#8, 0#8, 0#8, 0#8, 0#8] ++ bytes16 len ++ data
  | .chain c tmin tmax n len data => [c, 0#8] ++ bytes16 tmin ++ bytes16 tmax ++ bytes16 n ++ bytes16 len ++ data
  | .propose item index len data => [item, index] ++ bytes16 len ++ data
  | .withdraw item index => [item, index]
  | .enable causes => bytes16 causes
  | .ack cause => [cause]
  | .query kind x y => [kind, x, y]

/-- Zeros behind a frame's data that is shorter than 60 bytes, so that it is 64 with its frame check (R177). -/
def padded (f : List Byte) : List Byte := f ++ List.replicate (60 - f.length) 0#8

/-- The data of a control frame that carries a command (R178), padded to the least length of a frame. -/
def encodeControl (dst src : Addr) (ctype : Word16) (token : BitVec 32) (c : Command) : List Byte :=
  padded (bytes48 dst ++ bytes48 src ++ bytes16 ctype ++ [c.code, 0#8] ++ bytes32 token ++ c.fields)

end Sys2Proof
end

