-- ==== Sys2Proof/Machine/State.lean ====
section
/-! DEFINITION. The state of the ZR-316: every piece of state that the manual names, block by block in the order of the block
overview of 00_scope.md, the queue of waiting commands, and two fields of the model's own (`choices`, and the record `sent` of
what each link last carried). Reset is power-on (R166). -/

namespace Sys2Proof.Machine

open Sys2Proof

/-! ## One thing per line, per port, per class -/

/-- One value for each line. -/
structure PerLine (α : Type) where
  a : α
  b : α
  deriving DecidableEq, Repr

/-- One value for each client port. -/
structure PerPort (α : Type) where
  cp1 : α
  cp2 : α
  cp3 : α
  deriving DecidableEq, Repr

/-- One value for each traffic class. -/
structure PerClass (α : Type) where
  general : α
  sampled : α
  trip : α
  deriving DecidableEq, Repr

/-- A buffer number (R83). -/
abbrev BufId := Fin Config.nBuffers

/-- An entry number of the Stream Table (section 2.1). -/
abbrev EntryId := Fin Config.nEntries

/-- A channel number. -/
abbrev ChanId := Fin Config.nChannels

/-- An input line number. -/
abbrev InputId := Fin Config.nInputs

/-! ## What a link carries -/

/-- How a transmission ended: it completed, it was cut off by a link loss or a change to ABSENT (R12, R100), or a bay restart
ended it with an invalid frame check (R19, R100). -/
inductive SentHow | completed | cutOff | invalidCheck
  deriving DecidableEq, Repr

/-- The model's own record of the last transmission that ended on a link: the frame as built, frame check included. -/
structure Sent where
  how : SentHow
  wire : List Byte
  deriving DecidableEq, Repr

/-! ## Line ports (chapter 1) -/

/-- Link state of a line (section 1.3). -/
inductive LinkState | down | settling | up
  deriving DecidableEq, Repr

/-- A tag as a queue entry holds it: no line field (section 1.4). -/
structure Tag where
  origin : Origin
  cls : Cls
  seq : Seq
  deriving DecidableEq, Repr

/-- An entry of a line queue: a buffer reference, and a tag or (`none`) the untagged marker (section 1.4). -/
structure LineEntry where
  buf : BufId
  tag : Option Tag
  deriving DecidableEq, Repr

/-- A transmission under way on a line (R15): its buffer reference, the queue it came from, and the frame as sent. -/
structure LineTx where
  buf : BufId
  urgent : Bool
  wire : List Byte
  deriving DecidableEq, Repr

/-- The counters of a line port in the order of the table of R17, and the unmatched counter of R101. -/
structure LineCounters where
  badCheck : Counter
  badTag : Counter
  ownOrigin : Counter
  crossed : Counter
  noBuffer : Counter
  untaggedIn : Counter
  taggedIn : Counter
  lineAbsent : Counter
  urgentDrops : Counter
  routineDrops : Counter
  txUrgent : Counter
  txRoutine : Counter
  lost : Counter
  flushed : Counter
  linkLosses : Counter
  unmatched : Counter
  deriving DecidableEq, Repr

/-- A line port. `settleStart` is the start time of a running settle timer (R10); its end is that time plus SETTLE (R11). -/
structure LinePort where
  link : LinkState
  settleStart : Option Time
  urgent : List LineEntry
  routine : List LineEntry
  tx : Option LineTx
  sent : Option Sent
  ctr : LineCounters
  deriving DecidableEq, Repr

/-! ## Stream Table (chapters 2 and 3) -/

/-- State of a stream entry (section 2.3): VACANT, OPEN, LIVE, QUIET. -/
inductive EntryState | vacant | opened | live | quiet
  deriving DecidableEq, Repr

/-- Per-line hearing of a watched entry (section 4.2). -/
inductive Hearing | unheard | heard | silent
  deriving DecidableEq, Repr

/-- The key of a stream (section 2.1). -/
structure Key where
  origin : Origin
  cls : Cls
  deriving DecidableEq, Repr

/-- The sequence record: H and the window. The window is held as the back distances of its members from H in increasing order,
the form in which R45 reports it; distance 0 is H itself. -/
structure SeqRecord where
  high : Seq
  window : List Nat
  deriving DecidableEq, Repr

/-- The pending pair (R57): the latest accepted copy from a line, awaiting its partner. -/
structure PendingPair where
  seq : Seq
  line : Line
  time : Time
  deriving DecidableEq, Repr

/-- The counters of an entry in the order of the table of R38. -/
structure EntryCounters where
  accepted : Counter
  duplicate : Counter
  stale : Counter
  outOfOrder : Counter
  missed : Counter
  resyncs : Counter
  echoes : Counter
  deriving DecidableEq, Repr

/-- A stream entry with the fields of section 2.1; which are present in which state is R20. -/
structure Entry where
  key : Option Key
  state : EntryState
  isLocal : Bool
  subs : PerPort Bool
  record : Option SeqRecord
  sup : Option Nat
  hearing : Option (PerLine Hearing)
  lastArr : PerLine (Option Time)
  lastAny : Option Time
  lineDl : PerLine (Option Time)
  localDl : Option Time
  forgetDl : Option Time
  staleRun : Nat
  pair : Option PendingPair
  lastSkew : Option Int
  maxSkew : Option Int
  ctr : EntryCounters
  deriving DecidableEq, Repr

/-- The counters of the table (R39). -/
structure TableCounters where
  arrivalAllocs : Counter
  subAllocs : Counter
  evictions : Counter
  forgets : Counter
  deriving DecidableEq, Repr

/-- The Stream Table: its entries, the recency list with the oldest at the head (R29), and its counters. -/
structure Table where
  entries : Vector Entry Config.nEntries
  recency : List EntryId
  ctr : TableCounters
  deriving DecidableEq, Repr

/-- The counts that the Supervision Unit keeps step by step (R75). -/
structure Supervision where
  silent : PerLine Nat
  pinnedLive : Nat
  deriving DecidableEq, Repr

/-- The verdict of a line (R79): DOWN, SOUND, PARTIAL, DEAF. -/
inductive Verdict | down | sound | partly | deaf
  deriving DecidableEq, Repr

/-! ## Buffer Pool (chapter 5) -/

/-- A pool buffer: its reference count, and the frame it holds without its frame check. -/
structure Buffer where
  count : Nat
  frame : List Byte
  deriving DecidableEq, Repr

/-- The pool: its buffers, the free count, the pool state (`low`, else AMPLE, R87) and the figures of R88. -/
structure Pool where
  bufs : Vector Buffer Config.nBuffers
  free : Nat
  low : Bool
  reserveRefusals : Counter
  emptyRefusals : Counter
  lowWater : Nat
  deriving DecidableEq, Repr

/-! ## Settings (chapter 10) -/

/-- The working copy: a value for each item but RESTART (R155). Times are in milliseconds; ATTEND `none` is OFF; the two sets of
CLASS_MAP are kept in rising order without repeats, so that equal sets are equal data. -/
structure Settings where
  origin : PerPort Origin
  address : PerPort Addr
  attend : PerPort (Option Nat)
  tagType : Word16
  controlType : Word16
  tripSet : List Word16
  sampledSet : List Word16
  settle : Nat
  forget : Nat
  owner : Vector (Option Port) Config.nChannels
  trigger : Vector Trigger Config.nChannels
  filter : Vector Nat Config.nInputs
  deriving DecidableEq, Repr

/-- An item together with a judged value for it (R156). -/
inductive Setting
  | origin (p : Port) (v : Origin)
  | address (p : Port) (v : Addr)
  | attend (p : Port) (v : Option Nat)
  | tagType (v : Word16)
  | controlType (v : Word16)
  | classMap (trip sampled : List Word16)
  | settle (v : Nat)
  | forget (v : Nat)
  | owner (c : ChanId) (v : Option Port)
  | trigger (c : ChanId) (v : Trigger)
  | filter (n : InputId) (v : Nat)
  | restart
  deriving DecidableEq, Repr

/-- Image status (R158). -/
inductive ImageStatus | good | unreadable | badCheck | badItem
  deriving DecidableEq, Repr

/-- The refused records of a BAD_ITEM image: how many, and the code and index of the first (R158). -/
structure BadItems where
  count : Nat
  code : Byte
  index : Byte
  deriving DecidableEq, Repr

/-- A proposal (R159). -/
structure Proposal where
  port : Port
  setting : Setting
  expiry : Time
  deriving DecidableEq, Repr

/-- The four figures of the Settings Unit (R163). -/
structure SettingsFigures where
  commits : Counter
  conflicts : Counter
  lapses : Counter
  busy : Counter
  deriving DecidableEq, Repr

/-- The Settings Unit: working copy, image status, proposal list in joining order, figures. -/
structure SettingsUnit where
  work : Settings
  status : ImageStatus
  bad : Option BadItems
  proposals : List Proposal
  fig : SettingsFigures
  deriving DecidableEq, Repr

/-! ## Publication channels and input lines (chapters 8 and 9) -/

/-- State of a channel (section 8.1). -/
inductive ChanState | empty | ready | armed | sending | stopping
  deriving DecidableEq, Repr

/-- The cause of a FAILED channel (R144). -/
inductive ChanCause | noTemplate | badSchedule | uncleared | ownerLost | stopped | reconfigured
  deriving DecidableEq, Repr

/-- A schedule: minimum and maximum gap in milliseconds and the send count N, 0 for unlimited (R131). -/
structure Schedule where
  tmin : Nat
  tmax : Nat
  n : Nat
  deriving DecidableEq, Repr

/-- A template slot that is present: the reference to its buffer, and its schedule. -/
structure Template where
  buf : BufId
  sched : Schedule
  deriving DecidableEq, Repr

/-- The record of a channel (R129). -/
structure Channel where
  state : ChanState
  cur : Option Template
  nxt : Option Template
  k : Nat
  sendCount : Nat
  sendTime : Option Time
  finished : Bool
  failed : Option ChanCause
  chained : Counter
  bursts : Counter
  sends : Counter
  deriving DecidableEq, Repr

/-- A trip input line (section 9.1); `true` is high. -/
structure InputLine where
  raw : Bool
  filtered : Bool
  change : Option Time
  rising : Counter
  falling : Counter
  cancelled : Counter
  deriving DecidableEq, Repr

/-! ## Notices (chapter 11) -/

/-- The twelve causes, in order of priority (section 11.2). -/
inductive Cause
  | imageFault | line | peer | pool | streamQuiet | streamSingle
  | channel | queueLoss | loop | concurrence | streamBack | resync
  deriving DecidableEq, Repr

/-- Why a port changed between ABSENT and PRESENT (R116). -/
inductive PeerReason | hello | attendance | link | restart
  deriving DecidableEq, Repr

/-- The outcome that a CONCURRENCE reports (R159, R160, R162). -/
inductive ConcOutcome | committed | conflict | lapsed
  deriving DecidableEq, Repr

/-- The subject of an occurrence of a cause, with the summary that its rule has it carry (table of R178). -/
inductive Subject
  | imageFault (status : ImageStatus) (bad : Option BadItems)
  | line (va vb : Verdict) (silentA silentB pinnedLive : Nat)
  | peer (p : Port) (present : Bool) (reason : PeerReason)
  /-- R87: the new state and the free count after the step; the count is `none` only within the step itself. -/
  | pool (low : Bool) (free : Option Nat)
  | stream (key : Option Key) (hearing : Option (PerLine Hearing))
  | channel (c : ChanId) (failed : Option ChanCause)
  | queueLoss (routine : Bool) (urgentLoss routineLoss : Counter)
  | loop (l : Line) (origin : Origin)
  | concurrence (item : Item) (outcome : ConcOutcome) (values : List Setting) (ports : List Port) (fig : SettingsFigures)
  | resync (key : Option Key) (high : Seq)
  deriving DecidableEq, Repr

/-- What a port keeps for one cause (R170). -/
structure CauseRecord where
  pending : Bool
  count : Counter
  subject : Option Subject
  enabled : Bool
  deriving DecidableEq, Repr

/-- The notice state of a port: its causes by priority, and the in-service slot with the count its notice carried (R170). -/
structure NoticeUnit where
  causes : Vector CauseRecord 12
  slot : Option (Cause × Counter)
  deriving DecidableEq, Repr

/-! ## Replies (chapter 11) -/

/-- The outcomes of R169. -/
inductive RepOutcome
  | done | badForm | badValue | duplicate | notPresent | notOwner | limit | busy | state | unknownKey | noBuffer
  deriving DecidableEq, Repr

/-- The result of a PROPOSE that is answered DONE (R159). -/
inductive ProposeResult | standing | committed | conflict
  deriving DecidableEq, Repr

/-- A subscription: key and clamped hold time in milliseconds (R117). -/
structure Subscription where
  key : Key
  hold : Nat
  deriving DecidableEq, Repr

/-- The counters of a client port in the order of the tables of R115 and R101. -/
structure PortCounters where
  badCheck : Counter
  tooLong : Counter
  badType : Counter
  controlIn : Counter
  controlDropped : Counter
  dataIn : Counter
  noBuffer : Counter
  neighbour : Counter
  taggedOut : Counter
  untaggedOut : Counter
  lapses : Counter
  linkLosses : Counter
  urgentLoss : Counter
  routineLoss : Counter
  coalesced : Counter
  flushed : Counter
  laneFlushed : Counter
  txUrgent : Counter
  txLane : Counter
  txRoutine : Counter
  lost : Counter
  deriving DecidableEq, Repr

/-- A template as a CHANNEL snapshot shows it: length, destination, type, schedule (R148). -/
structure TemplateView where
  length : Nat
  dst : Addr
  type : Word16
  sched : Schedule
  deriving DecidableEq, Repr

/-- An input line as the INPUTS snapshot shows it (R154). -/
structure InputView where
  line : InputLine
  filter : Nat
  channels : List ChanId
  deriving DecidableEq, Repr

/-- A QUERY snapshot (R175), by the fields that the owning rules list. -/
inductive Snapshot
  /-- R40: entry number and entry (`none` and a VACANT entry for a key without one), table counters, and the number of VACANT
  entries, of pinned entries and of members of the recency list. -/
  | stream (num : Option EntryId) (e : Entry) (ctr : TableCounters) (vacants pinned listed : Nat)
  /-- R17, R82, R101: counters, link, remaining settle time, entries queued; verdict, silent count, pinned-live count. -/
  | line (ctr : LineCounters) (link : LinkState) (remaining : Option Time) (urgent routine : Nat)
      (verdict : Verdict) (silent pinnedLive : Nat)
  /-- R115, R101, R88, R117 and the notice state of the port. -/
  | port (ctr : PortCounters) (present linkUp : Bool) (window : Option Time) (seqs : PerClass Seq)
      (urgent lane routine : Nat) (free : Nat) (low : Bool) (reserveRefusals emptyRefusals : Counter) (lowWater : Nat)
      (subs : List Subscription) (pending enabled : List Cause) (inService : Option Cause)
  /-- R148. -/
  | channel (owner : Option Port) (trigger : Trigger) (chan : Channel) (cur nxt : Option TemplateView)
  /-- R167: the value in force, image status, and the proposal for the item if one stands. -/
  | setting (value : Setting) (status : ImageStatus) (bad : Option BadItems) (proposal : Option Proposal)
  /-- R167. -/
  | proposals (list : List Proposal) (fig : SettingsFigures)
  /-- R176. -/
  | clock (now startEnd : Time)
  /-- R154. -/
  | inputs (lines : List InputView)
  deriving DecidableEq, Repr

/-- State of a channel as a REPLY to a channel command carries it (R130), with the schedule a template command stored. -/
structure ChanReport where
  state : ChanState
  finished : Bool
  failed : Option ChanCause
  sched : Option Schedule
  deriving DecidableEq, Repr

/-- The body of a REPLY, by its fields. -/
inductive ReplyBody
  | empty
  /-- R127: for DONE the hold time stored, the entry's state, T and hearings; always the number of members. -/
  | subscribe (done : Option (Nat × EntryState × Option Nat × Option (PerLine Hearing))) (members : Nat)
  /-- R127: for DONE the entry's state and T; always the number of members. -/
  | unsubscribe (done : Option (EntryState × Option Nat)) (members : Nat)
  /-- R130: the channel number, and the channel's state if there is such a channel. -/
  | channel (chan : Byte) (report : Option ChanReport)
  /-- R159: result, judged value, number of proposals, expiry time. -/
  | propose (result : Option ProposeResult) (value : Option Setting) (proposals : Nat) (expiry : Option Time)
  /-- R174: the enable set in force. -/
  | enable (causes : List Cause)
  /-- R175. -/
  | query (snap : Snapshot)
  deriving DecidableEq, Repr

/-- What a frame of a reply lane says (R169, R171). -/
inductive LaneContent
  | reply (token : BitVec 32) (code : Byte) (outcome : RepOutcome) (body : ReplyBody)
  | notice (cause : Cause) (clock : Time) (count : Counter) (subject : Option Subject)
  deriving DecidableEq, Repr

/-- A frame of a reply lane, fixed when it joins (R97): addresses and type in force then, and what it says. -/
structure LaneFrame where
  dst : Addr
  src : Addr
  type : Word16
  content : LaneContent
  deriving DecidableEq, Repr

/-! ## Client ports (chapters 5, 6, 7) -/

/-- The queue that a client transmission came from (R99). -/
inductive ClientQueue | urgent | lane | routine
  deriving DecidableEq, Repr

/-- A transmission under way on a client link (R99): its queue, its buffer reference if it has one, and the frame as sent. -/
structure ClientTx where
  queue : ClientQueue
  buf : Option BufId
  wire : List Byte
  deriving DecidableEq, Repr

/-- A client port: link and port state, attendance window end, queues and reply lane, transmitter, counters, sequence counters
(R111), subscription list (R117), and the source address of the last control frame taken (R178). -/
structure ClientPort where
  linkUp : Bool
  present : Bool
  window : Option Time
  urgent : List BufId
  routine : List BufId
  lane : List LaneFrame
  tx : Option ClientTx
  sent : Option Sent
  ctr : PortCounters
  seqs : PerClass Seq
  subs : List Subscription
  lastSrc : Addr
  deriving DecidableEq, Repr

/-! ## The whole part -/

/-- The state of the part. `choices` counts the choices taken from `Config.tieKey`; it is the model's own, and so is `pending`,
the queue of commands waiting to be taken, first in first out. -/
structure State where
  pending : List Instr
  choices : Nat
  clock : Time
  starting : Bool
  startEnd : Time
  lines : PerLine LinePort
  table : Table
  sup : Supervision
  pool : Pool
  ports : PerPort ClientPort
  notices : PerPort NoticeUnit
  chans : Vector Channel Config.nChannels
  inputs : Vector InputLine Config.nInputs
  settings : SettingsUnit
  deriving DecidableEq, Repr

/-- Why the machine stops with a fault. No rule of the manual stops the part, so the one constructor is raised by nothing: it is
safe, and it stands here because the outcome type asks for a fault type. -/
inductive Fault
  /-- Raised by no meaning (safe). -/
  | none
  deriving DecidableEq, Repr

/-- Why a command has no meaning. -/
inductive Refusal
  /-- Raised by an arm of `exec` whose command is not modelled (safe). No arm is. -/
  | notModelled (mnemonic : String)
  deriving DecidableEq, Repr

/-! ## Reset values: power-on (R18, R41, R81, R83, R102, R129, R151, R155, R159, R163, R170, R176) -/

/-- A line's counters at 0. -/
def LineCounters.zero : LineCounters :=
  ⟨0, 0, 0, 0, 0, 0, 0, 0, 0, 0, 0, 0, 0, 0, 0, 0⟩

/-- A client port's counters at 0. -/
def PortCounters.zero : PortCounters :=
  ⟨0, 0, 0, 0, 0, 0, 0, 0, 0, 0, 0, 0, 0, 0, 0, 0, 0, 0, 0, 0, 0⟩

/-- An entry's counters at 0. -/
def EntryCounters.zero : EntryCounters := ⟨0, 0, 0, 0, 0, 0, 0⟩

/-- A VACANT entry: every field cleared (R20). -/
def Entry.vacant : Entry where
  key := none
  state := .vacant
  isLocal := false
  subs := ⟨false, false, false⟩
  record := none
  sup := none
  hearing := none
  lastArr := ⟨none, none⟩
  lastAny := none
  lineDl := ⟨none, none⟩
  localDl := none
  forgetDl := none
  staleRun := 0
  pair := none
  lastSkew := none
  maxSkew := none
  ctr := .zero

/-- A line port at power-on (R18), with a given link state, for the bay restart keeps it (R19). -/
def LinePort.fresh (link : LinkState) (sent : Option Sent) : LinePort :=
  { link := link, settleStart := none, urgent := [], routine := [], tx := none, sent := sent, ctr := .zero }

/-- A client port at power-on (R102), with a given link state, for the bay restart keeps it (R110). -/
def ClientPort.fresh (linkUp : Bool) (sent : Option Sent) : ClientPort :=
  { linkUp := linkUp, present := false, window := none, urgent := [], routine := [], lane := [], tx := none, sent := sent,
    ctr := .zero, seqs := ⟨0, 0, 0⟩, subs := [], lastSrc := 0 }

/-- The notice state of a port at power-on: nothing pending, every cause enabled, an empty slot (R170). -/
def NoticeUnit.fresh : NoticeUnit :=
  { causes := Vector.replicate 12 { pending := false, count := 0, subject := none, enabled := true }, slot := none }

/-- The table at power-on (R41). -/
def Table.fresh : Table :=
  { entries := Vector.replicate _ Entry.vacant, recency := [], ctr := ⟨0, 0, 0, 0⟩ }

/-- The pool at power-on (R83). -/
def Pool.fresh : Pool :=
  { bufs := Vector.replicate _ { count := 0, frame := [] }, free := Config.nBuffers, low := false,
    reserveRefusals := 0, emptyRefusals := 0, lowWater := Config.nBuffers }

/-- The default of every item (table of section 10.1). -/
def Settings.default : Settings where
  origin := ⟨0, 0, 0⟩
  address := ⟨0, 0, 0⟩
  attend := ⟨some 500, some 500, some 500⟩
  tagType := 0x89E2#16
  controlType := 0x89E3#16
  tripSet := []
  sampledSet := []
  settle := 1000
  forget := 5000
  owner := Vector.replicate _ none
  trigger := Vector.replicate _ .command
  filter := Vector.replicate _ 4

/-- The Settings Unit at power-on (R155, R159, R163). The image status before a first read is not observable (log entry 8). -/
def SettingsUnit.fresh : SettingsUnit :=
  { work := .default, status := .good, bad := none, proposals := [], fig := ⟨0, 0, 0, 0⟩ }

/-- A channel at power-on: the last column of R129. -/
def Channel.fresh : Channel where
  state := .empty
  cur := none
  nxt := none
  k := 0
  sendCount := 0
  sendTime := none
  finished := false
  failed := none
  chained := 0
  bursts := 0
  sends := 0

/-- An input line at power-on with the contact's level (R151). -/
def InputLine.fresh (raw : Bool) : InputLine :=
  { raw := raw, filtered := false, change := none, rising := 0, falling := 0, cancelled := 0 }

/-- The part at power-on with the given contact levels (R166, R151): STARTING, every link DOWN, every block at its power-on
values. The waiting commands and the count of choices, which are the model's own, are kept from outside. -/
def State.powerOn (pending : List Instr) (choices : Nat) (raw : Vector Bool Config.nInputs) : State where
  pending := pending
  choices := choices
  clock := 0
  starting := true
  startEnd := 0
  lines := ⟨.fresh .down none, .fresh .down none⟩
  table := .fresh
  sup := { silent := ⟨0, 0⟩, pinnedLive := 0 }
  pool := .fresh
  ports := ⟨.fresh false none, .fresh false none, .fresh false none⟩
  notices := ⟨.fresh, .fresh, .fresh⟩
  chans := Vector.replicate _ .fresh
  inputs := raw.map InputLine.fresh
  settings := .fresh

/-- The machine right after reset: power-on with every contact open (log entry 7) and no command waiting. -/
def State.reset : State := State.powerOn [] 0 (Vector.replicate _ false)

end Sys2Proof.Machine
end

