-- ==== Sys2Proof/Machine/Frames.lean ====
section
/-! DEFINITION. Frames on a link and the settings image as bytes: the frame check of R3, the line tag of R1 and R177, and the
record layout and CRC-16 of R157. -/

namespace Sys2Proof.Machine

open Sys2Proof

/-! ## The frame check (R3) -/

/-- One bit shifted into the 32-bit frame check register, generator 04C11DB7 hex. -/
def crc32Bit (r : BitVec 32) (bit : Bool) : BitVec 32 :=
  if Bool.xor r.msb bit then (r <<< 1) ^^^ 0x04C11DB7#32 else r <<< 1

/-- One byte shifted in, least significant bit first, as every byte on a link is sent. -/
def crc32Byte (r : BitVec 32) (x : Byte) : BitVec 32 :=
  crc32Bit (crc32Bit (crc32Bit (crc32Bit (crc32Bit (crc32Bit (crc32Bit (crc32Bit r
    (x.getLsbD 0)) (x.getLsbD 1)) (x.getLsbD 2)) (x.getLsbD 3)) (x.getLsbD 4)) (x.getLsbD 5)) (x.getLsbD 6)) (x.getLsbD 7)

/-- The register after the bytes of a frame, from FFFFFFFF hex. -/
def crc32Reg (data : List Byte) : BitVec 32 := data.foldl crc32Byte 0xFFFFFFFF#32

/-- The byte that is sent least significant bit first as the eight bits of `w` from bit `hi` down. -/
def sentByte (w : BitVec 32) (hi : Nat) : Byte :=
  BitVec.ofBoolListLE [w.getLsbD hi, w.getLsbD (hi - 1), w.getLsbD (hi - 2), w.getLsbD (hi - 3),
    w.getLsbD (hi - 4), w.getLsbD (hi - 5), w.getLsbD (hi - 6), w.getLsbD (hi - 7)]

/-- The four bytes of the frame check over `data`: the complement of the final register, the coefficient of x^31 first. -/
def frameCheck (data : List Byte) : List Byte :=
  let w := ~~~ (crc32Reg data)
  [sentByte w 31, sentByte w 23, sentByte w 15, sentByte w 7]

/-- A frame with its frame check behind it. -/
def withCheck (data : List Byte) : List Byte := data ++ frameCheck data

/-- A received frame less its last four bytes. -/
def frameData (f : List Byte) : List Byte := f.take (f.length - 4)

/-- A frame check matches when the one computed over the bytes before it equals the four bytes received (R3). -/
def checkMatches (f : List Byte) : Bool := decide (f.drop (f.length - 4) = frameCheck (frameData f))

/-! ## The line tag (R1, R177) -/

/-- The six tag bytes of a copy sent on line `l`. -/
def tagBytes (tagType : Word16) (t : Tag) (l : Line) : List Byte :=
  bytes16 tagType ++ bytes16 (tagWord t.origin t.cls l) ++ bytes16 t.seq

/-- A frame with a tag directly after the source address. -/
def insertTag (tagType : Word16) (t : Tag) (l : Line) (frame : List Byte) : List Byte :=
  frame.take 12 ++ tagBytes tagType t l ++ frame.drop 12

/-- A frame with the six bytes after the source address removed. -/
def removeTag (frame : List Byte) : List Byte := frame.take 12 ++ frame.drop 18

/-- The frame that a line sends for a queue entry: the buffer with the tag inserted, or unchanged for the untagged marker, and the
frame check over the frame as sent (R15). -/
def lineWire (tagType : Word16) (tag : Option Tag) (l : Line) (frame : List Byte) : List Byte :=
  match tag with
  | some t => withCheck (insertTag tagType t l frame)
  | none => withCheck frame

/-! ## The settings image (R157) -/

/-- A record of the settings image. -/
structure ImageRecord where
  code : Byte
  index : Byte
  value : List Byte
  deriving DecidableEq, Repr

/-- One bit shifted into the 16-bit register, generator 1021 hex. -/
def crc16Bit (r : Word16) (bit : Bool) : Word16 :=
  if Bool.xor r.msb bit then (r <<< 1) ^^^ 0x1021#16 else r <<< 1

/-- One byte shifted in, most significant bit first. -/
def crc16Byte (r : Word16) (x : Byte) : Word16 :=
  crc16Bit (crc16Bit (crc16Bit (crc16Bit (crc16Bit (crc16Bit (crc16Bit (crc16Bit r
    (x.getLsbD 7)) (x.getLsbD 6)) (x.getLsbD 5)) (x.getLsbD 4)) (x.getLsbD 3)) (x.getLsbD 2)) (x.getLsbD 1)) (x.getLsbD 0)

/-- The CRC-16 of the image over the count and every record byte in stored order, from FFFF hex. -/
def crc16 (bytes : List Byte) : Word16 := bytes.foldl crc16Byte 0xFFFF#16

/-- The next `n` records of the memory and what follows them; `none` when a record would run past the end of the memory. -/
def readRecords : Nat → List Byte → Option (List ImageRecord × List Byte)
  | 0, m => some ([], m)
  | n + 1, code :: index :: hi :: lo :: rest =>
    let v := (be16 hi lo).toNat
    if v ≤ rest.length then
      match readRecords n (rest.drop v) with
      | some (rs, m) => some (⟨code, index, rest.take v⟩ :: rs, m)
      | none => none
    else none
  | _ + 1, _ => none

/-- What the read of the settings memory finds: unreadable (`none`), or the records and whether the CRC matched (R157). -/
def readImage (memory : Option (List Byte)) : Option (List ImageRecord × Bool) :=
  match memory with
  | none => none
  | some m =>
    match m with
    | hi :: lo :: rest =>
      match readRecords (be16 hi lo).toNat rest with
      | some (rs, c1 :: c0 :: after) =>
        some (rs, decide (crc16 (m.take (m.length - after.length - 2)) = be16 c1 c0))
      | _ => none
    | _ => none

end Sys2Proof.Machine
end

