-- ==== Sys2Proof/Machine/Ops.lean ====
section
/-! DEFINITION. The operations that every block uses: access to the parts of the state, saturating counters, Bay Clock differences,
raising a cause (R170), free choices of order, and the buffer pool (R83 to R88). -/

namespace Sys2Proof.Machine

open Sys2Proof

/-! ## Lines, ports, classes -/

/-- The other line. -/
def otherLine : Line → Line
  | .a => .b
  | .b => .a

/-- Both lines, A first. -/
def allLines : List Line := [.a, .b]

/-- The client ports, CP1 first. -/
def allPorts : List Port := [.cp1, .cp2, .cp3]

/-- The value for a line. -/
def PerLine.get {α : Type} (x : PerLine α) : Line → α
  | .a => x.a
  | .b => x.b

/-- The value for a line replaced. -/
def PerLine.set {α : Type} (x : PerLine α) (l : Line) (v : α) : PerLine α :=
  match l with
  | .a => { x with a := v }
  | .b => { x with b := v }

/-- The value for a port. -/
def PerPort.get {α : Type} (x : PerPort α) : Port → α
  | .cp1 => x.cp1
  | .cp2 => x.cp2
  | .cp3 => x.cp3

/-- The value for a port replaced. -/
def PerPort.set {α : Type} (x : PerPort α) (p : Port) (v : α) : PerPort α :=
  match p with
  | .cp1 => { x with cp1 := v }
  | .cp2 => { x with cp2 := v }
  | .cp3 => { x with cp3 := v }

/-- The value for a class. -/
def PerClass.get {α : Type} (x : PerClass α) : Cls → α
  | .general => x.general
  | .sampled => x.sampled
  | .trip => x.trip

/-- The value for a class replaced. -/
def PerClass.set {α : Type} (x : PerClass α) (c : Cls) (v : α) : PerClass α :=
  match c with
  | .general => { x with general := v }
  | .sampled => { x with sampled := v }
  | .trip => { x with trip := v }

/-- The element at an index replaced by its image. -/
def updAt {α : Type} {n : Nat} (v : Vector α n) (i : Fin n) (f : α → α) : Vector α n :=
  v.set i.val (f (v.get i)) i.isLt

/-! ## Parts of the state -/

/-- A line port. -/
def State.line (s : State) (l : Line) : LinePort := s.lines.get l
/-- A client port. -/
def State.port (s : State) (p : Port) : ClientPort := s.ports.get p
/-- The notice state of a port. -/
def State.notice (s : State) (p : Port) : NoticeUnit := s.notices.get p
/-- A stream entry. -/
def State.entry (s : State) (i : EntryId) : Entry := s.table.entries.get i
/-- A channel. -/
def State.chan (s : State) (c : ChanId) : Channel := s.chans.get c
/-- An input line. -/
def State.input (s : State) (n : InputId) : InputLine := s.inputs.get n
/-- The working copy of the settings. -/
def State.work (s : State) : Settings := s.settings.work

/-- Change one line port. -/
def modLine (l : Line) (f : LinePort → LinePort) (s : State) : State := { s with lines := s.lines.set l (f (s.line l)) }
/-- Change one client port. -/
def modPort (p : Port) (f : ClientPort → ClientPort) (s : State) : State := { s with ports := s.ports.set p (f (s.port p)) }
/-- Change the notice state of one port. -/
def modNotice (p : Port) (f : NoticeUnit → NoticeUnit) (s : State) : State :=
  { s with notices := s.notices.set p (f (s.notice p)) }
/-- Change one stream entry. -/
def modEntry (i : EntryId) (f : Entry → Entry) (s : State) : State :=
  { s with table := { s.table with entries := updAt s.table.entries i f } }
/-- Change the recency list. -/
def modRecency (f : List EntryId → List EntryId) (s : State) : State :=
  { s with table := { s.table with recency := f s.table.recency } }
/-- Change the table counters. -/
def modTableCtr (f : TableCounters → TableCounters) (s : State) : State :=
  { s with table := { s.table with ctr := f s.table.ctr } }
/-- Change one channel. -/
def modChan (c : ChanId) (f : Channel → Channel) (s : State) : State := { s with chans := updAt s.chans c f }
/-- Change one input line. -/
def modInput (n : InputId) (f : InputLine → InputLine) (s : State) : State := { s with inputs := updAt s.inputs n f }
/-- Change the counters of one line. -/
def modLineCtr (l : Line) (f : LineCounters → LineCounters) (s : State) : State :=
  modLine l (fun x => { x with ctr := f x.ctr }) s
/-- Change the counters of one client port. -/
def modPortCtr (p : Port) (f : PortCounters → PortCounters) (s : State) : State :=
  modPort p (fun x => { x with ctr := f x.ctr }) s
/-- Change the pool alone. -/
def modPool (f : Pool → Pool) (s : State) : State := { s with pool := f s.pool }
/-- Change the working copy. -/
def modWork (f : Settings → Settings) (s : State) : State :=
  { s with settings := { s.settings with work := f s.settings.work } }
/-- Change the figures of the Settings Unit. -/
def modFig (f : SettingsFigures → SettingsFigures) (s : State) : State :=
  { s with settings := { s.settings with fig := f s.settings.fig } }
/-- Change the proposal list. -/
def modProposals (f : List Proposal → List Proposal) (s : State) : State :=
  { s with settings := { s.settings with proposals := f s.settings.proposals } }

/-! ## Counters (section "Conventions" of 00_scope.md) -/

/-- A counter increased by `n`, saturating. -/
def satAdd (c : Counter) (n : Nat) : Counter := BitVec.ofNat 32 (min (c.toNat + n) 4294967295)

/-- A counter increased by one, saturating. -/
def satInc (c : Counter) : Counter := satAdd c 1

/-- A counter reduced by one: 0 stays 0, and a saturated counter is not reduced (R38). -/
def satDec (c : Counter) : Counter :=
  if c = 0 then 0 else if c = Counter.top then Counter.top else c - 1

/-! ## Bay Clock values (R64, R176) -/

/-- A duration in milliseconds as a Bay Clock difference. -/
def ms (n : Nat) : Time := BitVec.ofNat 32 (n * 1000)

/-- Microseconds from `start` to `now`, modulo 2^32. -/
def elapsed (now start : Time) : Nat := (now - start).toNat

/-- A duration of `n` milliseconds from `start` has run out at `now` (R64). -/
def isPast (now start : Time) (n : Nat) : Bool := decide (n * 1000 ≤ elapsed now start)

/-- A stored time has been reached at `now`: it lies at most half a clock period behind (R137). -/
def isDue (now t : Time) : Bool := decide (elapsed now t < 2147483648)

/-! ## Free order (log entry 3) -/

/-- `x`, of rank `k`, put into a list that is in rank order, before the first of no lesser rank. -/
def insertRanked {α : Type} (k : Nat) (x : α) : List (Nat × α) → List (Nat × α)
  | [] => [(k, x)]
  | (j, y) :: ys => if k ≤ j then (k, x) :: (j, y) :: ys else (j, y) :: insertRanked k x ys

/-- The members of a list with their ranks, in rank order; `pos` is the position of the head in the whole list. -/
def rankAll {α : Type} (choice : Nat) : Nat → List α → List (Nat × α)
  | _, [] => []
  | pos, x :: xs => insertRanked (Config.tieKey choice pos) x (rankAll choice (pos + 1) xs)

/-- The members of a list in a free order: the order is `Config.tieKey`'s, and a list of one member needs none. -/
def freeOrder {α : Type} (choice : Nat) (xs : List α) : List α := (rankAll choice 0 xs).map Prod.snd

/-- Count a choice of order as taken if the list had more than one member. -/
def noteChoice {α : Type} (xs : List α) (s : State) : State :=
  if 2 ≤ xs.length then { s with choices := s.choices + 1 } else s

/-! ## Raising a cause (R170) -/

/-- The place of a cause in the order of priority; its code is one more (R178). -/
def Cause.idx : Cause → Fin 12
  | .imageFault => 0
  | .line => 1
  | .peer => 2
  | .pool => 3
  | .streamQuiet => 4
  | .streamSingle => 5
  | .channel => 6
  | .queueLoss => 7
  | .loop => 8
  | .concurrence => 9
  | .streamBack => 10
  | .resync => 11

/-- The causes, highest priority first. -/
def Cause.all : List Cause :=
  [.imageFault, .line, .peer, .pool, .streamQuiet, .streamSingle, .channel, .queueLoss, .loop, .concurrence, .streamBack, .resync]

/-- The cause of a cause code, 1 to 12 (R178). -/
def Cause.ofCode (code : Nat) : Option Cause := if code = 0 then none else Cause.all[code - 1]?

/-- What a raised cause does to its record: pending, counted, and the last subject kept (R170). -/
def CauseRecord.raised (subj : Subject) (r : CauseRecord) : CauseRecord :=
  { r with pending := true, count := satInc r.count, subject := some subj }

/-- A cause raised at a port, whether or not it is enabled, PRESENT or in service (R170). -/
def raiseAt (c : Cause) (subj : Subject) (p : Port) (s : State) : State :=
  modNotice p (fun n => { n with causes := updAt n.causes c.idx (CauseRecord.raised subj) }) s

/-- A cause raised at each port of a set. -/
def raiseSet (c : Cause) (subj : Subject) (ports : PerPort Bool) (s : State) : State :=
  allPorts.foldl (fun s p => if ports.get p then raiseAt c subj p s else s) s

/-- The ports that are PRESENT. -/
def presentSet (s : State) : PerPort Bool := ⟨s.ports.cp1.present, s.ports.cp2.present, s.ports.cp3.present⟩

/-- A cause raised at every PRESENT port. -/
def raisePresent (c : Cause) (subj : Subject) (s : State) : State := raiseSet c subj (presentSet s) s

/-! ## The buffer pool -/

/-- Who asks for a buffer (R85): a reception under a class, or a template command. -/
inductive Request
  | reception (c : Cls)
  | template
  deriving DecidableEq, Repr

/-- A request that may take from the trip reserve (R85). -/
def Request.fromReserve : Request → Bool
  | .reception c => c = .trip
  | .template => true

/-- The pool state judged after a take or a release; a change raises POOL at the ports that are PRESENT now, with the new state (R87). The
free count of its subject is that after the whole step, and `tellPool` puts it in. -/
def judgePool (s : State) : State :=
  if !s.pool.low && decide (s.pool.free ≤ Config.reserve) then
    raisePresent .pool (.pool true none) { s with pool := { s.pool with low := true } }
  else if s.pool.low && decide (Config.ampleAgain ≤ s.pool.free) then
    raisePresent .pool (.pool false none) { s with pool := { s.pool with low := false } }
  else s

/-- The lowest-numbered free buffer (R83). -/
def Pool.lowestFree (q : Pool) : Option BufId :=
  (List.finRange Config.nBuffers).find? (fun i => decide ((q.bufs.get i).count = 0))

/-- The pool after a take of buffer `b` for a frame (R83, R86, R88). -/
def Pool.taken (q : Pool) (b : BufId) (frame : List Byte) : Pool :=
  { q with bufs := updAt q.bufs b (fun _ => { count := 1, frame := frame }), free := q.free - 1,
           lowWater := min q.lowWater (q.free - 1) }

/-- The pool after an add (R83): a reference is added to a held buffer alone. -/
def Pool.added (q : Pool) (b : BufId) : Pool :=
  { q with bufs := updAt q.bufs b (fun x => if x.count = 0 then x else { x with count := x.count + 1 }) }

/-- The pool after a release (R83): at count 0 the buffer is free again. The frame of a free buffer is dropped (log entry 11). -/
def Pool.released (q : Pool) (b : BufId) : Pool :=
  let x := q.bufs.get b
  if x.count = 0 then q
  else if x.count = 1 then
    { q with bufs := updAt q.bufs b (fun _ => { count := 0, frame := [] }), free := q.free + 1 }
  else { q with bufs := updAt q.bufs b (fun x => { x with count := x.count - 1 }) }

/-- A request for a buffer, judged against the free count as it stands (R85): the buffer taken, or a counted refusal (R88). -/
def takeBuffer (r : Request) (frame : List Byte) (s : State) : Option BufId × State :=
  if s.pool.free = 0 then
    (none, modPool (fun q => { q with emptyRefusals := satInc q.emptyRefusals }) s)
  else if !r.fromReserve && decide (s.pool.free ≤ Config.reserve) then
    (none, modPool (fun q => { q with reserveRefusals := satInc q.reserveRefusals }) s)
  else
    match s.pool.lowestFree with
    | none => (none, modPool (fun q => { q with emptyRefusals := satInc q.emptyRefusals }) s)
    | some b => (some b, judgePool (modPool (fun q => q.taken b frame) s))

/-- A holder passes a frame on: one more reference to its buffer (R83). -/
def addRef (b : BufId) (s : State) : State := modPool (fun q => q.added b) s

/-- A holder gives up its reference (R83), and the pool state is judged (R87). -/
def release (b : BufId) (s : State) : State := judgePool (modPool (fun q => q.released b) s)

/-- References released one after another, as at a flush (R87). -/
def releaseAll (bs : List BufId) (s : State) : State := bs.foldl (fun s b => release b s) s

/-- The frame that a buffer holds. -/
def State.frameOf (s : State) (b : BufId) : List Byte := (s.pool.bufs.get b).frame

/-! ## Events -/

/-- The free count put into the subject of a POOL that was raised within the step (R87). -/
def Subject.withFree (free : Nat) : Subject → Subject
  | .pool low none => .pool low (some free)
  | x => x

/-- The subject of the POOL that a port holds, if it holds one. -/
def NoticeUnit.poolSubject (n : NoticeUnit) : Option Subject := (n.causes.get Cause.pool.idx).subject

/-- After the effects of an event: a POOL subject that the event has set takes the free count after the step (R87). -/
def tellPool (before after : State) : State :=
  allPorts.foldl (fun s p =>
    if (after.notice p).poolSubject = (before.notice p).poolSubject then s
    else modNotice p (fun n =>
      { n with causes := updAt n.causes Cause.pool.idx (fun r => { r with subject := r.subject.map (Subject.withFree after.pool.free) }) }) s)
    after

/-- The verdict of a line, from its link state and the counts (R79). -/
def verdict (s : State) (l : Line) : Verdict :=
  if (s.line l).link ≠ .up then .down
  else if s.sup.silent.get l = 0 then .sound
  else if s.sup.silent.get l = s.sup.pinnedLive then .deaf
  else .partly

/-- The verdicts are judged once after an event: where one differs from before it, LINE is raised once at every port that was
PRESENT when the event was taken (R79, R80). A bay restart, which leaves no port PRESENT, raises none (R81). -/
def judgeVerdicts (before after : State) : State :=
  if verdict before .a = verdict after .a ∧ verdict before .b = verdict after .b then after
  else
    raiseSet .line (.line (verdict after .a) (verdict after .b) after.sup.silent.a after.sup.silent.b after.sup.pinnedLive)
      ⟨before.ports.cp1.present && after.ports.cp1.present, before.ports.cp2.present && after.ports.cp2.present,
       before.ports.cp3.present && after.ports.cp3.present⟩ after

end Sys2Proof.Machine
end

