-- ==== Sys2Proof/Machine/Formats.lean ====
section
/-! DEFINITION. The formats section (R177, R178): setting values, subjects, reply bodies and snapshots as bytes, and the REPLY and
NOTICE frames that the part builds. What a body says stands in `ReplyBody` and `Subject`; here stands only how it is laid out. -/

namespace Sys2Proof.Machine

open Sys2Proof

/-! ## Plain fields (R178) -/

/-- A state, choice, flag, port, line, channel, item code or index: one byte. -/
def put1 (n : Nat) : List Byte := [BitVec.ofNat 8 n]
/-- A sequence, entry number, length or set of causes: two bytes. -/
def put2 (n : Nat) : List Byte := bytes16 (BitVec.ofNat 16 n)
/-- A time, a counter or any other number: four bytes. -/
def put4 (n : Nat) : List Byte := bytes32 (BitVec.ofNat 32 n)
/-- A flag: 1 when set and 0 when clear. -/
def putFlag (f : Bool) : List Byte := [if f then 1 else 0]
/-- A field that may be absent: a presence byte, 0 for absent, before it. -/
def putOpt {α : Type} (f : α → List Byte) : Option α → List Byte
  | none => [0]
  | some x => 1 :: f x
/-- A list: its member count in one byte, then its members in order. -/
def putList {α : Type} (f : α → List Byte) (xs : List α) : List Byte := put1 xs.length ++ xs.flatMap f
/-- A signed number in two's complement. -/
def putSkew (d : Int) : List Byte := bytes32 (BitVec.ofInt 32 d)

/-! ## Codes (R178) -/

/-- A client port's number, 1 to 3. -/
def portCode : Port → Nat | .cp1 => 1 | .cp2 => 2 | .cp3 => 3
/-- The client port of a number. -/
def portOf (n : Nat) : Option Port :=
  if n = 1 then some .cp1 else if n = 2 then some .cp2 else if n = 3 then some .cp3 else none
/-- A line's code. -/
def lineCode : Line → Nat | .a => 0 | .b => 1
/-- Entry state. -/
def entryStateCode : EntryState → Nat | .vacant => 0 | .opened => 1 | .live => 2 | .quiet => 3
/-- Hearing. -/
def hearingCode : Hearing → Nat | .unheard => 0 | .heard => 1 | .silent => 2
/-- Verdict. -/
def verdictCode : Verdict → Nat | .down => 0 | .sound => 1 | .partly => 2 | .deaf => 3
/-- Line link state. -/
def linkCode : LinkState → Nat | .down => 0 | .settling => 1 | .up => 2
/-- PEER reason. -/
def reasonCode : PeerReason → Nat | .hello => 0 | .attendance => 1 | .link => 2 | .restart => 3
/-- Image status. -/
def statusCode : ImageStatus → Nat | .good => 0 | .unreadable => 1 | .badCheck => 2 | .badItem => 3
/-- Channel state. -/
def chanStateCode : ChanState → Nat | .empty => 0 | .ready => 1 | .armed => 2 | .sending => 3 | .stopping => 4
/-- Channel cause. -/
def chanCauseCode : ChanCause → Nat
  | .noTemplate => 1 | .badSchedule => 2 | .uncleared => 3 | .ownerLost => 4 | .stopped => 5 | .reconfigured => 6
/-- CONCURRENCE outcome. -/
def concCode : ConcOutcome → Nat | .committed => 0 | .conflict => 1 | .lapsed => 2
/-- PROPOSE result. -/
def resultCode : ProposeResult → Nat | .standing => 0 | .committed => 1 | .conflict => 2
/-- Outcome codes of R178. -/
def outcomeCode : RepOutcome → Nat
  | .done => 0 | .badForm => 1 | .badValue => 2 | .duplicate => 3 | .notPresent => 4 | .notOwner => 5 | .limit => 6 | .busy => 7
  | .state => 8 | .unknownKey => 9 | .noBuffer => 10
/-- A cause's code is its priority (R178). -/
def causeCode (c : Cause) : Nat := c.idx.val + 1
/-- A set of ports: bit (port − 1) set for each member. -/
def portSetCode (s : PerPort Bool) : Nat :=
  (if s.cp1 then 1 else 0) + (if s.cp2 then 2 else 0) + (if s.cp3 then 4 else 0)
/-- A set of causes, coded as the ENABLE field: bit (cause code − 1). -/
def causeSetCode (cs : List Cause) : Nat := (cs.map (fun c => 2 ^ c.idx.val)).sum

/-! ## Setting items and values (R178) -/

/-- The item code. -/
def itemCode : Item → Nat
  | .origin _ => 1 | .address _ => 2 | .attend _ => 3 | .tagType => 4 | .controlType => 5 | .classMap => 6
  | .settle => 7 | .forget => 8 | .owner _ => 9 | .trigger _ => 10 | .filter _ => 11 | .restart => 12

/-- The index of an item: a port's number, a channel or an input line; 0 for an item that takes none. -/
def itemIndex : Item → Nat
  | .origin p | .address p | .attend p => portCode p
  | .owner c | .trigger c => c.val
  | .filter n => n.val
  | .tagType | .controlType | .classMap | .settle | .forget | .restart => 0

/-- The encoding length of the value of an item code; a code that names no item has none (R168). -/
def valueLength (code : Nat) : Option Nat :=
  match code with
  | 1 => some 2 | 2 => some 6 | 3 => some 2 | 4 => some 2 | 5 => some 2 | 6 => some 18
  | 7 => some 2 | 8 => some 2 | 9 => some 1 | 10 => some 1 | 11 => some 1 | 12 => some 0
  | _ => none

/-- The item of a code and an index; none for an unknown item or an index outside its range (R156). -/
def itemOf (code index : Nat) : Option Item :=
  match code with
  | 1 => (portOf index).map .origin
  | 2 => (portOf index).map .address
  | 3 => (portOf index).map .attend
  | 4 => if index = 0 then some .tagType else none
  | 5 => if index = 0 then some .controlType else none
  | 6 => if index = 0 then some .classMap else none
  | 7 => if index = 0 then some .settle else none
  | 8 => if index = 0 then some .forget else none
  | 9 => if h : index < Config.nChannels then some (.owner ⟨index, h⟩) else none
  | 10 => if h : index < Config.nChannels then some (.trigger ⟨index, h⟩) else none
  | 11 => if h : index < Config.nInputs then some (.filter ⟨index, h⟩) else none
  | 12 => if index = 0 then some .restart else none
  | _ => none

/-- The item that a setting is for. -/
def Setting.item : Setting → Item
  | .origin p _ => .origin p
  | .address p _ => .address p
  | .attend p _ => .attend p
  | .tagType _ => .tagType
  | .controlType _ => .controlType
  | .classMap _ _ => .classMap
  | .settle _ => .settle
  | .forget _ => .forget
  | .owner c _ => .owner c
  | .trigger c _ => .trigger c
  | .filter n _ => .filter n
  | .restart => .restart

/-- A TRIGGER value: 00 COMMAND, 10+n EDGE INn, 20+n LEVEL INn, in hex. -/
def triggerCode : Trigger → Nat
  | .command => 0x00
  | .edge n => 0x10 + n.val
  | .level n => 0x20 + n.val

/-- An OWNER value: 0 NONE, 1 to 3 a port. -/
def ownerCode : Option Port → Nat
  | none => 0
  | some p => portCode p

/-- A member put into a list that is in the order of `Config.slotRank`. -/
def insertSlot (x : Word16) : List Word16 → List Word16
  | [] => [x]
  | y :: ys => if Config.slotRank x ≤ Config.slotRank y then x :: y :: ys else y :: insertSlot x ys

/-- A set of CLASS_MAP as the part writes it: count and four slots; the order of the members and the unused slots are free values
(log entry 5). -/
def putTypeSet (base : Nat) (ts : List Word16) : List Byte :=
  put1 ts.length ++ (ts.foldr insertSlot []).flatMap bytes16 ++
    (List.range (4 - ts.length)).flatMap (fun i => bytes16 (Config.unusedSlot (base + i)))

/-- A setting's value, as PROPOSE carries it (R178). RESTART, which has no value, is written as a value of 0 bytes (DESIGN CHOICE, log entry 34). -/
def putValue : Setting → List Byte
  | .origin _ v => put2 v.toNat
  | .address _ v => bytes48 v
  | .attend _ (some n) => put2 n
  | .attend _ none => put2 0xFFFF
  | .tagType v | .controlType v => bytes16 v
  | .classMap t s => putTypeSet 0 t ++ putTypeSet 4 s
  | .settle v | .forget v => put2 v
  | .owner _ v => put1 (ownerCode v)
  | .trigger _ v => put1 (triggerCode v)
  | .filter _ v => put1 v
  | .restart => []

/-- The value of an item in the working copy. RESTART has none, and is given as a value that takes 0 bytes (DESIGN CHOICE, log entry 34). -/
def Settings.valueOf (w : Settings) : Item → Setting
  | .origin p => .origin p (w.origin.get p)
  | .address p => .address p (w.address.get p)
  | .attend p => .attend p (w.attend.get p)
  | .tagType => .tagType w.tagType
  | .controlType => .controlType w.controlType
  | .classMap => .classMap w.tripSet w.sampledSet
  | .settle => .settle w.settle
  | .forget => .forget w.forget
  | .owner c => .owner c (w.owner.get c)
  | .trigger c => .trigger c (w.trigger.get c)
  | .filter n => .filter n (w.filter.get n)
  | .restart => .restart

/-- Item code and index. -/
def putItem (i : Item) : List Byte := put1 (itemCode i) ++ put1 (itemIndex i)

/-- A proposal: port, item code, index, value length, value and expiry time. -/
def putProposal (p : Proposal) : List Byte :=
  put1 (portCode p.port) ++ putItem p.setting.item ++ put2 (putValue p.setting).length ++ putValue p.setting ++ bytes32 p.expiry

/-! ## Subjects (table of R178) -/

/-- The key word of a key. -/
def putKey (k : Key) : List Byte := bytes16 (keyWord k.origin k.cls)

/-- The refused records of an image: count and first item, each absent unless the status is BAD_ITEM, each with its presence byte (DESIGN CHOICE,
log entry 32). -/
def putBad (b : Option BadItems) : List Byte :=
  putOpt (fun b => put4 b.count) b ++ putOpt (fun b => [b.code, b.index]) b

/-- The two hearings, each absent for an entry without them, each with its presence byte (DESIGN CHOICE, log entry 32). -/
def putHearings (h : Option (PerLine Hearing)) : List Byte :=
  putOpt (fun h => put1 (hearingCode h.a)) h ++ putOpt (fun h => put1 (hearingCode h.b)) h

/-- A subject as a NOTICE carries it. The origin of a LOOP is written as any other number, in four bytes (DESIGN CHOICE, log entry 30). A lapsed
proposal of RESTART gives CONCURRENCE one value of 0 bytes (DESIGN CHOICE, log entry 34). -/
def putSubject : Subject → List Byte
  | .imageFault st bad => put1 (statusCode st) ++ putBad bad
  | .line va vb sa sb pl => put1 (verdictCode va) ++ put1 (verdictCode vb) ++ put4 sa ++ put4 sb ++ put4 pl
  | .peer p present reason => put1 (portCode p) ++ putFlag present ++ put1 (reasonCode reason)
  | .pool low free => putFlag low ++ (match free with | some n => put4 n | none => [])
  | .stream key h => (match key with | some k => putKey k | none => []) ++ putHearings h
  | .channel c none => put1 c.val ++ put1 0
  | .channel c (some cause) => put1 c.val ++ put1 1 ++ put1 (chanCauseCode cause)
  | .queueLoss routine u r => putFlag routine ++ bytes32 u ++ bytes32 r
  | .loop l o => put1 (lineCode l) ++ put4 o.toNat
  | .concurrence item out vs ps fig =>
    putItem item ++ put1 (concCode out) ++ putList putValue vs ++ putList (fun p => put1 (portCode p)) ps ++
      bytes32 fig.commits ++ bytes32 fig.conflicts ++ bytes32 fig.lapses
  | .resync key h => (match key with | some k => putKey k | none => []) ++ bytes16 h

/-! ## Snapshots (R175) and reply bodies (R169) -/

/-- A schedule, its three numbers in four bytes each (DESIGN CHOICE, log entry 30). -/
def putSchedule (s : Schedule) : List Byte := put4 s.tmin ++ put4 s.tmax ++ put4 s.n

/-- The window: member count, then the back distances in increasing order (R45). -/
def putWindow (w : List Nat) : List Byte := putList put1 w

/-- The pending pair: sequence, line, arrival time. -/
def putPair (p : PendingPair) : List Byte := bytes16 p.seq ++ put1 (lineCode p.line) ++ bytes32 p.time

/-- An entry's fields in the row order of section 2.1. Of a VACANT entry every field but the state is absent, and its subscriber set, which R20 has
empty and not absent, is the byte 0 with no presence byte; R21 has such a snapshot give no other field than the state (DESIGN CHOICE, log entry 31).
Each of the seven counters has a presence byte of its own; whether R178 means one for the row of counters is open (DESIGN CHOICE, log entry 32). -/
def putEntry (e : Entry) : List Byte :=
  let held := decide (e.state ≠ .vacant)
  let ctr (c : Counter) : List Byte := putOpt bytes32 (if held then some c else none)
  putOpt putKey e.key ++ put1 (entryStateCode e.state) ++ putOpt putFlag (if held then some e.isLocal else none) ++
    put1 (portSetCode e.subs) ++ putOpt (fun r => bytes16 r.high) e.record ++ putOpt (fun r => putWindow r.window) e.record ++
    putOpt put4 e.sup ++ putHearings e.hearing ++ putOpt bytes32 e.lastArr.a ++ putOpt bytes32 e.lastArr.b ++
    putOpt bytes32 e.lastAny ++ putOpt bytes32 e.lineDl.a ++ putOpt bytes32 e.lineDl.b ++ putOpt bytes32 e.localDl ++
    putOpt bytes32 e.forgetDl ++ putOpt put4 (if held then some e.staleRun else none) ++ putOpt putPair e.pair ++
    putOpt putSkew e.lastSkew ++ putOpt putSkew e.maxSkew ++ ctr e.ctr.accepted ++ ctr e.ctr.duplicate ++ ctr e.ctr.stale ++
    ctr e.ctr.outOfOrder ++ ctr e.ctr.missed ++ ctr e.ctr.resyncs ++ ctr e.ctr.echoes

/-- A template of a CHANNEL snapshot: its length, destination address, type and schedule. R178 names no two-byte form for a type, so it is
written as any other number (DESIGN CHOICE, log entry 30). -/
def putTemplate (t : TemplateView) : List Byte := put2 t.length ++ bytes48 t.dst ++ put4 t.type.toNat ++ putSchedule t.sched

/-- An input line of an INPUTS snapshot; the channels that name it are listed in rising number, an order that neither R154 nor R178 gives
(DESIGN CHOICE, log entry 29). R178 gives a FILTER value one byte as an item and any other number four: FILTER(n) is written here in four
(DESIGN CHOICE, log entry 30). -/
def putInput (v : InputView) : List Byte :=
  putFlag v.line.raw ++ putFlag v.line.filtered ++ putOpt bytes32 v.line.change ++ put4 v.filter ++ bytes32 v.line.rising ++
    bytes32 v.line.falling ++ bytes32 v.line.cancelled ++ putList (fun c => put1 c.val) v.channels

/-- The counters of a line in the row order of R17. -/
def putLineCounters (c : LineCounters) : List Byte :=
  [c.badCheck, c.badTag, c.ownOrigin, c.crossed, c.noBuffer, c.untaggedIn, c.taggedIn, c.lineAbsent, c.urgentDrops, c.routineDrops,
    c.txUrgent, c.txRoutine, c.lost, c.flushed, c.linkLosses].flatMap bytes32

/-- The counters of a port in the row order of R115. -/
def putPortCounters (c : PortCounters) : List Byte :=
  [c.badCheck, c.tooLong, c.badType, c.controlIn, c.controlDropped, c.dataIn, c.noBuffer, c.neighbour, c.taggedOut, c.untaggedOut,
    c.lapses, c.linkLosses].flatMap bytes32

/-- The delivery counters of a port in the row order of R101. -/
def putDeliveryCounters (c : PortCounters) : List Byte :=
  [c.urgentLoss, c.routineLoss, c.coalesced, c.flushed, c.laneFlushed, c.txUrgent, c.txLane, c.txRoutine, c.lost].flatMap bytes32

/-- A snapshot, its rules in the order in which R175 names them. R101 gives the three queue counts of a PORT snapshot no order, and R17 the two of a
LINE snapshot: they stand in the order in which R99 and R15 serve the queues (DESIGN CHOICE, log entry 27). The lines of an INPUTS snapshot stand in
rising number, IN0 first, with no member count before them, which neither R154 nor R178 gives (DESIGN CHOICE, log entry 29). Port, value and expiry
time of the proposal in a SETTING snapshot have a presence byte each (DESIGN CHOICE, log entry 32). Of RESTART the value in force takes 0 bytes with
no presence byte, and the value of its proposal 0 bytes behind a presence byte of 1 (DESIGN CHOICE, log entry 34). The remaining settle time and the
time left in a window are in microseconds (DESIGN CHOICE, log entry 26). -/
def putSnapshot : Snapshot → List Byte
  | .stream num e ctr vacants pinned listed =>
    putOpt (fun i => put2 i.val) num ++ putEntry e ++
      bytes32 ctr.arrivalAllocs ++ bytes32 ctr.subAllocs ++ bytes32 ctr.evictions ++ bytes32 ctr.forgets ++
      put4 vacants ++ put4 pinned ++ put4 listed
  | .line ctr link remaining urgent routine v silent pl =>
    putLineCounters ctr ++ put1 (linkCode link) ++ putOpt bytes32 remaining ++ put4 urgent ++ put4 routine ++
      put1 (verdictCode v) ++ put4 silent ++ put4 pl ++ bytes32 ctr.unmatched
  | .port ctr present linkUp window seqs urgent lane routine free low rr er lw subs pending enabled inService =>
    putPortCounters ctr ++ putFlag present ++ putFlag linkUp ++ putOpt bytes32 window ++
      bytes16 seqs.general ++ bytes16 seqs.sampled ++ bytes16 seqs.trip ++ put4 subs.length ++
      putDeliveryCounters ctr ++ put4 urgent ++ put4 lane ++ put4 routine ++
      put4 free ++ putFlag low ++ bytes32 rr ++ bytes32 er ++ put4 lw ++
      putList (fun m => putKey m.key ++ put4 m.hold) subs ++
      put2 (causeSetCode pending) ++ put2 (causeSetCode enabled) ++ putOpt (fun c => put1 (causeCode c)) inService
  | .channel owner trigger ch cur nxt =>
    put1 (ownerCode owner) ++ put1 (triggerCode trigger) ++ put1 (chanStateCode ch.state) ++ putFlag ch.finished ++
      putFlag ch.failed.isSome ++ putOpt (fun f => put1 (chanCauseCode f)) ch.failed ++
      putOpt putTemplate cur ++ putOpt putTemplate nxt ++ put4 ch.k ++ put4 ch.sendCount ++ putOpt bytes32 ch.sendTime ++
      bytes32 ch.chained ++ bytes32 ch.bursts ++ bytes32 ch.sends
  | .setting value status bad proposal =>
    putValue value ++ put1 (statusCode status) ++ putBad bad ++
      putOpt (fun p => put1 (portCode p.port)) proposal ++ putOpt (fun p => putValue p.setting) proposal ++
      putOpt (fun p => bytes32 p.expiry) proposal
  | .proposals list fig =>
    putList putProposal list ++ bytes32 fig.commits ++ bytes32 fig.conflicts ++ bytes32 fig.lapses ++ bytes32 fig.busy
  | .clock now startEnd => bytes32 now ++ bytes32 startEnd
  | .inputs lines => lines.flatMap putInput

/-- The longest body of a REPLY (R177). -/
def bodyLimit : Nat := 1486

/-- A reply body as bytes. The supervision time of an entry is a field that may be absent (R20), so a presence byte stands before it also in
the body of a SUBSCRIBE answered DONE, whose entry has one (DEDUCED, log entry 28). In the body of a PROPOSE the judged value of RESTART
has its presence byte, 1, and 0 bytes behind it (DESIGN CHOICE, log entry 34). The free bytes for a channel number outside 0 to 7 stay
within the longest body of R177. -/
def putBody : ReplyBody → List Byte
  | .empty => []
  | .subscribe none members => put4 members
  | .subscribe (some (hold, st, sup, h)) members =>
    put4 hold ++ put1 (entryStateCode st) ++ putOpt put4 sup ++ putHearings h ++ put4 members
  | .unsubscribe none members => put4 members
  | .unsubscribe (some (st, sup)) members => put1 (entryStateCode st) ++ putOpt put4 sup ++ put4 members
  | .channel chan none => [chan] ++ (Config.noChannelBody chan).take (bodyLimit - 1)
  | .channel chan (some r) =>
    [chan] ++ put1 (chanStateCode r.state) ++ putFlag r.finished ++ putFlag r.failed.isSome ++
      putOpt (fun f => put1 (chanCauseCode f)) r.failed ++ (match r.sched with | some s => putSchedule s | none => [])
  | .propose result value count expiry =>
    putOpt (fun r => put1 (resultCode r)) result ++ putOpt putValue value ++ put4 count ++ putOpt bytes32 expiry
  | .enable causes => put2 (causeSetCode causes)
  | .query snap => putSnapshot snap

/-! ## REPLY and NOTICE frames (R178) -/

/-- A reserved byte of a frame that the part builds: a free value (log entry 4). -/
def reserved (off : Nat) : Byte := Config.reservedByte off

/-- The data of a lane frame by the layout of R178, padded to the least length of a frame (R177). -/
def LaneFrame.data (f : LaneFrame) : List Byte :=
  let head := bytes48 f.dst ++ bytes48 f.src ++ bytes16 f.type
  match f.content with
  | .reply token code outcome body =>
    let b := putBody body
    padded (head ++ [0x80#8, code] ++ bytes32 token ++ put1 (outcomeCode outcome) ++ [reserved 21] ++ put2 b.length ++
      [reserved 24, reserved 25] ++ b)
  | .notice cause clock count subject =>
    let b := match subject with | some x => putSubject x | none => []
    padded (head ++ [0x81#8, BitVec.ofNat 8 (causeCode cause)] ++ bytes32 clock ++ [reserved 20, reserved 21] ++
      bytes32 count ++ put2 b.length ++ b)

end Sys2Proof.Machine
end

