-- ==== Sys2Proof/Machine/Transmit.lean ====
section
/-! DEFINITION. Queues and transmitters: the line queues (R13 to R15), the client queues and the reply lane (R94 to R100), and the
presentation of a notice (R171). -/

namespace Sys2Proof.Machine

open Sys2Proof

/-! ## Line transmitter (R15) and line queues (R13, R14) -/

/-- The transmission of an entry of a line queue that begins now: TAG_TYPE is the value in force at this moment (R1, R16). -/
def beginLineTx (l : Line) (urgent : Bool) (e : LineEntry) (s : State) : LineTx :=
  { buf := e.buf, urgent := urgent, wire := lineWire s.work.tagType e.tag l (s.frameOf e.buf) }

/-- An idle transmitter of a line whose link is not DOWN takes the head of the urgent queue, or else of the routine queue; the
entry's reference passes to the transmission (R15, R86). -/
def startLineTx (l : Line) (s : State) : State :=
  let x := s.line l
  match x.link, x.tx, x.urgent, x.routine with
  | .down, _, _, _ => s
  | _, some _, _, _ => s
  | _, none, e :: rest, _ => modLine l (fun x => { x with urgent := rest, tx := some (beginLineTx l true e s) }) s
  | _, none, [], e :: rest => modLine l (fun x => { x with routine := rest, tx := some (beginLineTx l false e s) }) s
  | _, none, [], [] => s

/-- The urgent or the routine queue of a line. -/
def LinePort.queue (x : LinePort) (urgent : Bool) : List LineEntry := if urgent then x.urgent else x.routine

/-- One queue of a line replaced. -/
def LinePort.withQueue (x : LinePort) (urgent : Bool) (q : List LineEntry) : LinePort :=
  if urgent then { x with urgent := q } else { x with routine := q }

/-- A drop counted by queue (R14). -/
def LineCounters.dropped (c : LineCounters) (urgent : Bool) : LineCounters :=
  if urgent then { c with urgentDrops := satInc c.urgentDrops } else { c with routineDrops := satInc c.routineDrops }

/-- The full number of entries of a queue. -/
def places (urgent : Bool) : Nat := if urgent then Config.urgentPlaces else Config.routinePlaces

/-- An entry joins the tail of a line queue; a full queue first drops its head, whose reference is released and which is counted
(R14). -/
def joinLine (l : Line) (urgent : Bool) (e : LineEntry) (s : State) : State :=
  match (s.line l).queue urgent with
  | h :: rest =>
    if places urgent ≤ (h :: rest).length then
      release h.buf (modLine l (fun x => { x.withQueue urgent (rest ++ [e]) with ctr := x.ctr.dropped urgent }) s)
    else modLine l (fun x => x.withQueue urgent (h :: rest ++ [e])) s
  | [] => modLine l (fun x => x.withQueue urgent [e]) s

/-- A copy placed for a line: skipped and counted when the link is DOWN, else an entry with a new reference (R13). -/
def placeCopy (l : Line) (urgent : Bool) (e : LineEntry) (s : State) : State :=
  if (s.line l).link = .down then modLineCtr l (fun c => { c with lineAbsent := satInc c.lineAbsent }) s
  else startLineTx l (joinLine l urgent e (addRef e.buf s))

/-! ## Client transmitter (R99) -/

/-- An idle transmitter of a client port whose link is up takes the head of the urgent queue, else of the reply lane, else of the
routine queue (R99). -/
def startClientTx (p : Port) (s : State) : State :=
  let x := s.port p
  match x.linkUp, x.tx, x.urgent, x.lane, x.routine with
  | false, _, _, _, _ => s
  | true, some _, _, _, _ => s
  | true, none, b :: rest, _, _ =>
    modPort p (fun x => { x with urgent := rest, tx := some ⟨.urgent, some b, withCheck (s.frameOf b)⟩ }) s
  | true, none, [], f :: rest, _ =>
    modPort p (fun x => { x with lane := rest, tx := some ⟨.lane, none, withCheck f.data⟩ }) s
  | true, none, [], [], b :: rest =>
    modPort p (fun x => { x with routine := rest, tx := some ⟨.routine, some b, withCheck (s.frameOf b)⟩ }) s
  | true, none, [], [], [] => s

/-- A transmission's reference is released, if it has one (R86). -/
def releaseOpt (b : Option BufId) (s : State) : State :=
  match b with
  | some b => release b s
  | none => s

/-- A transmission under way on a client link is cut off and counted as lost (R100). -/
def cutClientTx (p : Port) (s : State) : State :=
  match (s.port p).tx with
  | none => s
  | some t =>
    releaseOpt t.buf
      (modPort p (fun x => { x with tx := none, sent := some ⟨.cutOff, t.wire⟩, ctr := { x.ctr with lost := satInc x.ctr.lost } }) s)

/-! ## Client queues (R94, R95) -/

/-- The urgent or the routine queue of a client port. -/
def ClientPort.queue (x : ClientPort) (urgent : Bool) : List BufId := if urgent then x.urgent else x.routine

/-- One queue of a client port replaced. -/
def ClientPort.withQueue (x : ClientPort) (urgent : Bool) (q : List BufId) : ClientPort :=
  if urgent then { x with urgent := q } else { x with routine := q }

/-- A loss counted by queue (R95). -/
def PortCounters.lossCounted (c : PortCounters) (urgent : Bool) : PortCounters :=
  if urgent then { c with urgentLoss := satInc c.urgentLoss } else { c with routineLoss := satInc c.routineLoss }

/-- An entry joins the tail of a client queue with a new reference; a full queue first drops its head, whose reference is released,
which is counted and which raises QUEUE_LOSS at the port with the counters after the drop (R95). -/
def joinClient (p : Port) (urgent : Bool) (b : BufId) (s : State) : State :=
  match (s.port p).queue urgent with
  | h :: rest =>
    if places urgent ≤ (h :: rest).length then
      let c := (s.port p).ctr.lossCounted urgent
      release h (raiseAt .queueLoss (.queueLoss (!urgent) c.urgentLoss c.routineLoss) p
        (modPort p (fun x => { x.withQueue urgent (rest ++ [b]) with ctr := c }) (addRef b s)))
    else modPort p (fun x => x.withQueue urgent (h :: rest ++ [b])) (addRef b s)
  | [] => modPort p (fun x => x.withQueue urgent [b]) (addRef b s)

/-- A frame given to a port: coalesced with a waiting entry for the same buffer (R94), else joined to the queue. -/
def giveClient (p : Port) (urgent : Bool) (b : BufId) (s : State) : State :=
  if b ∈ (s.port p).queue urgent then
    modPortCtr p (fun c => { c with coalesced := satInc c.coalesced }) s
  else startClientTx p (joinClient p urgent b s)

/-! ## The reply lane (R97) -/

/-- A frame joins the tail of the reply lane; an idle transmitter takes it (R97, R99). -/
def joinLane (p : Port) (f : LaneFrame) (s : State) : State :=
  startClientTx p (modPort p (fun x => { x with lane := x.lane ++ [f] }) s)

/-- A REPLY joins the lane: to the source of the frame it answers, from ADDRESS(p), with CONTROL_TYPE as in force now (R169). -/
def joinReply (p : Port) (src : Addr) (token : BitVec 32) (code : Byte) (outcome : RepOutcome) (body : ReplyBody) (s : State) : State :=
  joinLane p { dst := src, src := s.work.address.get p, type := s.work.controlType, content := .reply token code outcome body } s

/-! ## Presenting a notice (R171) -/

/-- The record of a cause at a port. -/
def NoticeUnit.of (n : NoticeUnit) (c : Cause) : CauseRecord := n.causes.get c.idx

/-- The pending enabled cause of highest priority. -/
def NoticeUnit.waiting (n : NoticeUnit) : Option Cause :=
  Cause.all.find? (fun c => (n.of c).pending && (n.of c).enabled)

/-- The cause that a port presents now, if the four conditions of R171 hold together. -/
def presentable (p : Port) (s : State) : Option Cause :=
  if (s.port p).present && (s.notice p).slot.isNone && decide ((s.port p).lane.length < Config.lanePlaces) then
    (s.notice p).waiting
  else none

/-- A cause presented: its NOTICE joins the lane, it is in service with its count, and its pending mark and count are cleared; the
last subject is kept (R171). -/
def present (p : Port) (c : Cause) (s : State) : State :=
  let r := (s.notice p).of c
  joinLane p { dst := (s.port p).lastSrc, src := s.work.address.get p, type := s.work.controlType,
               content := .notice c s.clock r.count r.subject }
    (modNotice p (fun n => { causes := updAt n.causes c.idx (fun r => { r with pending := false, count := 0 }),
                             slot := some (c, r.count) }) s)

/-- At most one notice presented at a port, at the end of an event (R171). -/
def presentAt (p : Port) (s : State) : State :=
  match presentable p s with
  | some c => present p c s
  | none => s

/-- The presentations of an event, port by port; a port's presentation touches no other port. -/
def presentAll (s : State) : State := allPorts.foldl (fun s p => presentAt p s) s

/-- One event taken whole: its effects, with the free count told in a POOL that they raised (R87), then the verdicts judged once (R79), then
the notices presented (R171). -/
def event (f : State → State) (s : State) : Host.Outcome State Fault Refusal :=
  .next (presentAll (judgeVerdicts s (tellPool s (f s))))

end Sys2Proof.Machine
end

