-- ==== Sys2Proof/Machine/Streams.lean ====
section
/-! DEFINITION. The Stream Table's operations (chapter 2) and the acceptance arithmetic of one arrival (chapter 3): what an arrival
does to the sequence record, the counters and the pending pair of its entry. -/

namespace Sys2Proof.Machine

open Sys2Proof

/-! ## Sequence distance and classification (R43, R44) -/

/-- The forward difference of `s` from H, modulo 65536. -/
def forwardDiff (high s : Seq) : Nat := (s - high).toNat

/-- The back distance of `x` behind H, modulo 65536. -/
def backDist (high x : Seq) : Nat := (high - x).toNat

/-- The classes of an arrival to a LIVE entry (R44). -/
inductive ArrivalClass
  | duplicateOfHigh
  | ahead
  | duplicate
  | outOfOrder
  | stale
  deriving DecidableEq, Repr

/-- The class of an arrival by its distances and the window (table of R44). -/
def classify (r : SeqRecord) (s : Seq) : ArrivalClass :=
  let f := forwardDiff r.high s
  let b := backDist r.high s
  if f = 0 then .duplicateOfHigh
  else if f ≤ 32767 then .ahead
  else if b ≤ Config.windowReach then
    if b ∈ r.window then .duplicate else .outOfOrder
  else .stale

/-! ## The window (R45, R47, R49) -/

/-- An advance: every member moves `f` further back, those beyond reach leave, and `s` is the new H (R47). -/
def SeqRecord.advance (r : SeqRecord) (s : Seq) : SeqRecord :=
  let f := forwardDiff r.high s
  { high := s, window := 0 :: (r.window.map (· + f)).filter (fun b => decide (b ≤ Config.windowReach)) }

/-- A back distance put into a rising list. -/
def insertDist (b : Nat) : List Nat → List Nat
  | [] => [b]
  | x :: xs => if b < x then b :: x :: xs else x :: insertDist b xs

/-- An out-of-order accept: `s` joins the window (R49). -/
def SeqRecord.insert (r : SeqRecord) (s : Seq) : SeqRecord := { r with window := insertDist (backDist r.high s) r.window }

/-- A re-base: the window is the single member H (R51, R53, R32). -/
def SeqRecord.base (s : Seq) : SeqRecord := { high := s, window := [0] }

/-! ## What an arrival does to its entry -/

/-- An arrival: its sequence, its receiving line unless it is a local arrival (R23), and its time. -/
structure Arrival where
  seq : Seq
  line : Option Line
  time : Time
  deriving DecidableEq, Repr

/-- What the Acceptance Unit decides of an arrival. -/
inductive Judgement | accepted | resynced | discarded
  deriving DecidableEq, Repr

/-- An accepted arrival is handed on (R62). -/
def Judgement.accepts : Judgement → Bool
  | .accepted | .resynced => true
  | .discarded => false

/-- An accept of a line arrival sets the pending pair; a local accept leaves it (R57). -/
def Entry.withPair (e : Entry) (x : Arrival) : Entry :=
  match x.line with
  | some l => { e with pair := some { seq := x.seq, line := l, time := x.time } }
  | none => e

/-- A measured skew recorded: last skew replaced, max skew only by a greater magnitude (R61). -/
def Entry.recordSkew (e : Entry) (d : Int) : Entry :=
  { e with lastSkew := some d,
           maxSkew := match e.maxSkew with
             | none => some d
             | some m => if m.natAbs < d.natAbs then some d else some m }

/-- The skew of a copy on line `l` at `t` whose partner came at `t0`: positive when Line B lagged, at most 65535 (R60). -/
def skewOf (l : Line) (t t0 : Time) : Int :=
  let d : Int := min (elapsed t t0) 65535
  match l with
  | .b => d
  | .a => -d

/-- A discarded duplicate against the pending pair: an echo on the pair's own line (R59), a skew measurement on the other (R60), or
neither. -/
def Entry.matchPair (e : Entry) (x : Arrival) : Entry :=
  match x.line, e.pair with
  | some l, some q =>
    if q.seq = x.seq then
      if q.line = l then { e with ctr := { e.ctr with echoes := satInc e.ctr.echoes } }
      else { e.recordSkew (skewOf l x.time q.time) with pair := none }
    else e
  | _, _ => e

/-- A duplicate: discarded and counted, then tested against the pending pair (R46, R48). -/
def Entry.takeDuplicate (e : Entry) (x : Arrival) : Entry :=
  Entry.matchPair { e with ctr := { e.ctr with duplicate := satInc e.ctr.duplicate } } x

/-- An arrival ahead of H: accepted, the window advances, and the sequences stepped over are missed (R47). -/
def Entry.takeAhead (e : Entry) (r : SeqRecord) (x : Arrival) : Entry :=
  Entry.withPair
    { e with record := some (r.advance x.seq), staleRun := 0,
             ctr := { e.ctr with accepted := satInc e.ctr.accepted,
                                 missed := satAdd e.ctr.missed (forwardDiff r.high x.seq - 1) } } x

/-- An arrival behind H and not in the window: accepted out of order (R49). -/
def Entry.takeOutOfOrder (e : Entry) (r : SeqRecord) (x : Arrival) : Entry :=
  Entry.withPair
    { e with record := some (r.insert x.seq), staleRun := 0,
             ctr := { e.ctr with accepted := satInc e.ctr.accepted, outOfOrder := satInc e.ctr.outOfOrder,
                                 missed := satDec e.ctr.missed } } x

/-- A stale arrival that is not the eighth of its run: discarded (R50). -/
def Entry.takeStale (e : Entry) : Entry :=
  { e with staleRun := e.staleRun + 1, ctr := { e.ctr with stale := satInc e.ctr.stale } }

/-- The eighth stale arrival of a run re-bases the entry (R51). -/
def Entry.takeResync (e : Entry) (x : Arrival) : Entry :=
  Entry.withPair
    { e with record := some (.base x.seq), staleRun := 0,
             ctr := { e.ctr with accepted := satInc e.ctr.accepted, resyncs := satInc e.ctr.resyncs } } x

/-- An arrival to an OPEN or QUIET entry re-bases it and makes it LIVE (R53). -/
def Entry.rebase (e : Entry) (x : Arrival) : Entry :=
  Entry.withPair
    { e with record := some (.base x.seq), staleRun := 0, state := .live,
             ctr := { e.ctr with accepted := satInc e.ctr.accepted } } x

/-- The sequence part of an arrival: classified at a LIVE entry (R44), a re-base elsewhere (R53). -/
def Entry.judge (e : Entry) (x : Arrival) : Entry × Judgement :=
  match e.state, e.record with
  | .live, some r =>
    match classify r x.seq with
    | .duplicateOfHigh | .duplicate => (e.takeDuplicate x, .discarded)
    | .ahead => (e.takeAhead r x, .accepted)
    | .outOfOrder => (e.takeOutOfOrder r x, .accepted)
    | .stale =>
      if e.staleRun + 1 < Config.resyncRun then (e.takeStale, .discarded) else (e.takeResync x, .resynced)
  | _, _ => (e.rebase x, .accepted)

/-- The arrival times after an arrival of any outcome: last arrival of its line, and last arrival any (R22, R23). -/
def Entry.stamp (e : Entry) (x : Arrival) : Entry :=
  { e with lastAny := some x.time,
           lastArr := match x.line with
             | some l => e.lastArr.set l (some x.time)
             | none => e.lastArr }

/-! ## Keys, marks and lookup (R21, R24, R26) -/

/-- An origin is local when it is the non-zero ORIGIN of some client port, present or absent (R5, R24). -/
def isLocalOrigin (s : State) (o : Origin) : Bool :=
  decide (o ≠ 0) && (decide (s.work.origin.cp1 = o) || decide (s.work.origin.cp2 = o) || decide (s.work.origin.cp3 = o))

/-- The entry of a key, if the table holds one (R21). -/
def findKey (k : Key) (s : State) : Option EntryId :=
  (List.finRange Config.nEntries).find? (fun i => decide ((s.entry i).key = some k))

/-- An entry with at least one subscriber (R26). -/
def Entry.pinned (e : Entry) : Bool := e.subs.cp1 || e.subs.cp2 || e.subs.cp3

/-- A watched entry: pinned and not local (chapter 4). -/
def Entry.watched (e : Entry) : Bool := e.pinned && !e.isLocal

/-! ## The recency list (R29, R30) -/

/-- The list with an entry taken off. -/
def offList (i : EntryId) (xs : List EntryId) : List EntryId := xs.filter (fun j => decide (j ≠ i))

/-- The list with an entry moved to its tail. -/
def toTail (i : EntryId) (xs : List EntryId) : List EntryId := offList i xs ++ [i]

/-- The age of an entry: the Bay Clock less its last arrival any, modulo 2^32 (R29). -/
def ageOf (s : State) (i : EntryId) : Nat :=
  match (s.entry i).lastAny with
  | some t => elapsed s.clock t
  | none => 0

/-- An entry put directly before the first member whose last arrival any is later than its own, else at the tail (R30). -/
def placeByAge (s : State) (i : EntryId) : List EntryId → List EntryId
  | [] => [i]
  | j :: js => if ageOf s j < ageOf s i then i :: j :: js else j :: placeByAge s i js

/-! ## Allocation, eviction, forgetting (R31 to R36) -/

/-- An entry made VACANT with all its fields cleared (R20), and taken off the recency list. -/
def vacate (i : EntryId) (s : State) : State := modRecency (offList i) (modEntry i (fun _ => Entry.vacant) s)

/-- The lowest-numbered VACANT entry (R31). -/
def lowestVacant (s : State) : Option EntryId :=
  (List.finRange Config.nEntries).find? (fun i => decide ((s.entry i).state = .vacant))

/-- The entry that an allocation takes: the lowest VACANT one, else the head of the recency list, evicted and counted (R31, R34).
R26 keeps the list from being empty when no entry is VACANT; in a state that no run reaches, nothing is taken. -/
def takeEntry (s : State) : Option EntryId × State :=
  match lowestVacant s with
  | some i => (some i, s)
  | none =>
    match s.table.recency with
    | i :: _ => (some i, modTableCtr (fun c => { c with evictions := satInc c.evictions }) (vacate i s))
    | [] => (none, s)

/-- The entry that a tagged arrival founds: unpinned and LIVE (R32). -/
def arrivalEntry (k : Key) (isLocal : Bool) (forget : Nat) (x : Arrival) : Entry :=
  Entry.withPair
    { Entry.vacant with
      key := some k, state := .live, isLocal := isLocal, record := some (.base x.seq),
      lastArr := match x.line with | some l => PerLine.set ⟨none, none⟩ l (some x.time) | none => ⟨none, none⟩,
      lastAny := some x.time, forgetDl := some (x.time + ms forget), ctr := { EntryCounters.zero with accepted := 1 } } x

/-- A tagged arrival for a key with no entry: allocated, at the tail of the recency list (R32). -/
def foundByArrival (k : Key) (x : Arrival) (s : State) : State :=
  match takeEntry s with
  | (some i, s1) =>
    modRecency (toTail i)
      (modTableCtr (fun c => { c with arrivalAllocs := satInc c.arrivalAllocs })
        (modEntry i (fun _ => arrivalEntry k (isLocalOrigin s k.origin) s.work.forget x) s1))
  | (none, s1) => s1

/-- The entry that a SUBSCRIBE founds: OPEN, with the port as its one subscriber (R33). -/
def openEntry (k : Key) (isLocal : Bool) (p : Port) (hold : Nat) : Entry :=
  { Entry.vacant with
    key := some k, state := .opened, isLocal := isLocal, subs := PerPort.set ⟨false, false, false⟩ p true, sup := some hold,
    hearing := if isLocal then none else some ⟨.unheard, .unheard⟩ }

/-- A SUBSCRIBE for a key with no entry: allocated OPEN (R33). -/
def foundBySubscribe (k : Key) (p : Port) (hold : Nat) (s : State) : State :=
  match takeEntry s with
  | (some i, s1) =>
    modTableCtr (fun c => { c with subAllocs := satInc c.subAllocs })
      (modEntry i (fun _ => openEntry k (isLocalOrigin s k.origin) p hold) s1)
  | (none, s1) => s1

/-- A forget deadline expires: VACANT, and counted (R36). It is counted also where a commit of FORGET, an UNSUBSCRIBE, a fresh HELLO or a RESTART_PORT
makes a past deadline expire at once, though R39 has no port event and no commit change the counter (DEDUCED, log entry 33). -/
def forgetEntry (i : EntryId) (s : State) : State :=
  modTableCtr (fun c => { c with forgets := satInc c.forgets }) (vacate i s)

/-- An unpinned LIVE entry takes its place by age with its forget deadline, or is forgotten at once if that is past, and counted so (R28, R35;
DEDUCED, log entry 33). -/
def listUnpinned (i : EntryId) (s : State) : State :=
  match (s.entry i).lastAny with
  | some t =>
    if isPast s.clock t s.work.forget then forgetEntry i s
    else modRecency (fun xs => placeByAge s i (offList i xs)) (modEntry i (fun e => { e with forgetDl := some (t + ms s.work.forget) }) s)
  | none => s

/-- A commit of FORGET at one entry: a running forget deadline recomputed, and expired at once if past, and counted so (R37; DEDUCED, log entry 33). -/
def reforget (i : EntryId) (s : State) : State :=
  match (s.entry i).forgetDl, (s.entry i).lastAny with
  | some _, some t =>
    if isPast s.clock t s.work.forget then forgetEntry i s
    else modEntry i (fun e => { e with forgetDl := some (t + ms s.work.forget) }) s
  | _, _ => s

/-- A step taken at every entry in increasing entry number (R74). -/
def forEntries (f : EntryId → State → State) (s : State) : State := (List.finRange Config.nEntries).foldl (fun s i => f i s) s

end Sys2Proof.Machine
end

