-- ==== Sys2Proof/Machine/Supervise.lean ====
section
/-! DEFINITION. The Supervision Unit (chapter 4): hearings and their deadlines, the silent counts and the pinned-live count, the
stream notices, and what a change of subscribers, of supervision time or of local mark does to an entry. -/

namespace Sys2Proof.Machine

open Sys2Proof

/-! ## Conditions of a stream (section 4.2) -/

/-- One line SILENT and the other HEARD: the stream is single. -/
def isSingle (h : PerLine Hearing) : Bool :=
  (h.a = .silent && h.b = .heard) || (h.b = .silent && h.a = .heard)

/-- Both lines SILENT, or one SILENT and the other UNHEARD: a LIVE entry with these goes QUIET (R67, R71, R72). -/
def isLost (h : PerLine Hearing) : Bool :=
  (h.a = .silent && decide (h.b ≠ .heard)) || (h.b = .silent && decide (h.a ≠ .heard))

/-! ## The counts (R75, R76) -/

/-- 1 for a SILENT hearing. -/
def silentUnit (h : Hearing) : Nat := if h = .silent then 1 else 0

/-- The contribution of a watched LIVE entry put into the counts. -/
def countIn (h : PerLine Hearing) (u : Supervision) : Supervision :=
  { silent := ⟨u.silent.a + silentUnit h.a, u.silent.b + silentUnit h.b⟩, pinnedLive := u.pinnedLive + 1 }

/-- The contribution of a watched LIVE entry taken out of the counts. -/
def countOut (h : PerLine Hearing) (u : Supervision) : Supervision :=
  { silent := ⟨u.silent.a - silentUnit h.a, u.silent.b - silentUnit h.b⟩, pinnedLive := u.pinnedLive - 1 }

/-- Change the counts. -/
def modSup (f : Supervision → Supervision) (s : State) : State := { s with sup := f s.sup }

/-! ## Stream notices (R74) -/

/-- A stream notice raised at every subscriber of an entry, with its key and its hearings as they stand (R74). -/
def raiseStream (c : Cause) (i : EntryId) (s : State) : State :=
  raiseSet c (.stream (s.entry i).key (s.entry i).hearing) (s.entry i).subs s

/-! ## Hearings of a watched LIVE entry -/

/-- A LIVE entry comes to hold the hearings `h` with the deadlines `dl`. It had been watched with the hearings `old`, or (`none`)
it becomes watched now. It stays LIVE or goes QUIET by `h`; its contribution follows; STREAM_QUIET is raised for QUIET and
STREAM_SINGLE for a stream that was not single just before (R67, R71, R72, R74, R76). -/
def setHearings (i : EntryId) (old : Option (PerLine Hearing)) (h : PerLine Hearing) (dl : PerLine (Option Time)) (s : State) : State :=
  let s1 := match old with
    | some o => modSup (countOut o) s
    | none => s
  if isLost h then
    raiseStream .streamQuiet i
      (modEntry i (fun e => { e with state := .quiet, hearing := some h, lineDl := ⟨none, none⟩ }) s1)
  else
    let s2 := modEntry i (fun e => { e with hearing := some h, lineDl := dl }) (modSup (countIn h) s1)
    if isSingle h && !(old.map isSingle).getD false then raiseStream .streamSingle i s2 else s2

/-- A line of a watched LIVE entry becomes SILENT, by its deadline or by a link loss (R67, R77). -/
def silenceLine (i : EntryId) (l : Line) (s : State) : State :=
  match (s.entry i).hearing with
  | some h => setHearings i (some h) (h.set l .silent) ((s.entry i).lineDl.set l none) s
  | none => s

/-- A link loss on line `l` at one entry: a watched LIVE entry has the line silenced, a watched QUIET one takes SILENT for it (R77). -/
def lossAt (l : Line) (i : EntryId) (s : State) : State :=
  let e := s.entry i
  if e.watched then
    match e.state, e.hearing with
    | .live, some h => if h.get l = .silent then s else silenceLine i l s
    | .quiet, some h => modEntry i (fun e => { e with hearing := some (h.set l .silent) }) s
    | _, _ => s
  else s

/-- A line arrival to a watched LIVE entry: its line is HEARD and its deadline restarts; a SILENT line that returns leaves single
and raises STREAM_BACK (R66). -/
def hearArrival (i : EntryId) (l : Line) (t : Time) (s : State) : State :=
  match (s.entry i).hearing, (s.entry i).sup with
  | some h, some T =>
    let s1 := modEntry i (fun e => { e with hearing := some (h.set l .heard), lineDl := e.lineDl.set l (some (t + ms T)) }) s
    if h.get l = .silent then
      raiseStream .streamBack i (modSup (fun u => { u with silent := u.silent.set l (u.silent.get l - 1) }) s1)
    else s1
  | _, _ => s

/-- A watched entry that was OPEN or QUIET becomes LIVE on a line arrival: that line HEARD, the other UNHEARD, both deadlines from
the arrival; STREAM_BACK if it was QUIET (R70). -/
def beginHearing (i : EntryId) (l : Line) (t : Time) (wasQuiet : Bool) (s : State) : State :=
  match (s.entry i).sup with
  | some T =>
    let s1 := modSup (fun u => { u with pinnedLive := u.pinnedLive + 1 })
      (modEntry i (fun e => { e with hearing := some (PerLine.set ⟨.unheard, .unheard⟩ l .heard),
                                     lineDl := ⟨some (t + ms T), some (t + ms T)⟩ }) s)
    if wasQuiet then raiseStream .streamBack i s1 else s1
  | none => s

/-! ## Local entries (R73) -/

/-- A local LIVE entry goes QUIET, with STREAM_QUIET. -/
def quietLocal (i : EntryId) (s : State) : State :=
  raiseStream .streamQuiet i (modEntry i (fun e => { e with state := .quiet, localDl := none }) s)

/-- A pinned LIVE local entry's deadline from its last arrival any; a past one expires at once (R27, R25, R72, R73). -/
def startLocalDeadline (i : EntryId) (s : State) : State :=
  match (s.entry i).lastAny, (s.entry i).sup with
  | some t, some T =>
    if isPast s.clock t T then quietLocal i s
    else modEntry i (fun e => { e with localDl := some (t + ms T) }) s
  | _, _ => s

/-- A local arrival to a pinned local entry: the deadline restarts, and STREAM_BACK is raised if it was QUIET (R73). -/
def hearLocal (i : EntryId) (t : Time) (wasQuiet : Bool) (s : State) : State :=
  match (s.entry i).sup with
  | some T =>
    let s1 := modEntry i (fun e => { e with localDl := some (t + ms T) }) s
    if wasQuiet then raiseStream .streamBack i s1 else s1
  | none => s

/-! ## A LIVE entry becomes watched (R71) -/

/-- The hearing and deadline that R71 gives line `l` from the stored times. -/
def judgeLine (e : Entry) (now : Time) (T : Nat) (l : Line) : Hearing × Option Time :=
  match e.lastArr.get l, e.lastAny with
  | some t, _ => if isPast now t T then (.silent, none) else (.heard, some (t + ms T))
  | none, some t => if isPast now t T then (.silent, none) else (.unheard, some (t + ms T))
  | none, none => (.silent, none)

/-- A pinned LIVE non-local entry becomes watched, both lines judged and taken together, once (R71). -/
def beginWatch (i : EntryId) (s : State) : State :=
  let e := s.entry i
  match e.sup with
  | some T =>
    let a := judgeLine e s.clock T .a
    let b := judgeLine e s.clock T .b
    setHearings i none ⟨a.1, b.1⟩ ⟨a.2, b.2⟩ s
  | none => s

/-! ## Supervision time (R64, R72, R123) -/

/-- The hold time that a port's list holds for a key. -/
def holdOf (s : State) (p : Port) (k : Key) : Option Nat :=
  ((s.port p).subs.find? (fun m => decide (m.key = k))).map Subscription.hold

/-- The least hold time for a key among the lists of the ports of a set (R64). -/
def leastHold (s : State) (ports : PerPort Bool) (k : Key) : Option Nat :=
  ((allPorts.filter (fun p => ports.get p)).filterMap (fun p => holdOf s p k)).min?

/-- A running line deadline recomputed for a new T: from the last arrival of a HEARD line, from the base time of an UNHEARD one
(the old deadline less the old T); past, the line is SILENT (R72). -/
def retimeLine (e : Entry) (now : Time) (oldT newT : Nat) (h : PerLine Hearing) (l : Line) : Hearing × Option Time :=
  match h.get l, e.lastArr.get l, e.lineDl.get l with
  | .silent, _, _ => (.silent, none)
  | .heard, some t, _ => if isPast now t newT then (.silent, none) else (.heard, some (t + ms newT))
  | .heard, none, some d => if isPast now (d - ms oldT) newT then (.silent, none) else (.heard, some (d - ms oldT + ms newT))
  | .unheard, _, some d => if isPast now (d - ms oldT) newT then (.silent, none) else (.unheard, some (d - ms oldT + ms newT))
  | x, _, none => (x, none)

/-- The supervision time of a pinned entry recomputed over its subscribers and applied by its state (R123). -/
def retime (i : EntryId) (s : State) : State :=
  let e := s.entry i
  match e.key, e.sup with
  | some k, some oldT =>
    match leastHold s e.subs k with
    | some newT =>
      if newT = oldT then s
      else
        let s1 := modEntry i (fun e => { e with sup := some newT }) s
        if e.state ≠ .live then s1
        else if e.isLocal then startLocalDeadline i s1
        else
          match e.hearing with
          | some h =>
            let a := retimeLine e s.clock oldT newT h .a
            let b := retimeLine e s.clock oldT newT h .b
            setHearings i (some h) ⟨a.1, b.1⟩ ⟨a.2, b.2⟩ s1
          | none => s1
    | none => s
  | _, _ => s

/-! ## Pinning and unpinning (R26 to R28) -/

/-- An unpinned entry gains its first subscriber: off the recency list, no forget deadline, T the hold time, and watched or given its
local deadline from its stored times (R27). -/
def pinEntry (i : EntryId) (p : Port) (hold : Nat) (s : State) : State :=
  let s1 := modRecency (offList i)
    (modEntry i (fun e => { e with subs := e.subs.set p true, forgetDl := none, sup := some hold }) s)
  if (s1.entry i).isLocal then startLocalDeadline i s1 else beginWatch i s1

/-- A port joins the subscribers of a pinned entry, and T is recomputed (R120, R123). -/
def joinSubscribers (i : EntryId) (p : Port) (s : State) : State :=
  retime i (modEntry i (fun e => { e with subs := e.subs.set p true }) s)

/-- The last subscriber leaves: an OPEN or QUIET entry becomes VACANT; a LIVE one loses its supervision and its contribution, and
takes its place on the recency list (R28). -/
def unpinEntry (i : EntryId) (s : State) : State :=
  let e := s.entry i
  match e.state with
  | .live =>
    let s1 := match e.hearing with
      | some h => if e.isLocal then s else modSup (countOut h) s
      | none => s
    listUnpinned i
      (modEntry i (fun e => { e with subs := ⟨false, false, false⟩, sup := none, hearing := none,
                                     lineDl := ⟨none, none⟩, localDl := none }) s1)
  | _ => vacate i s

/-- A port leaves the subscribers of an entry (R26, R28, R123). -/
def leaveSubscribers (i : EntryId) (p : Port) (s : State) : State :=
  let s1 := modEntry i (fun e => { e with subs := e.subs.set p false }) s
  if (s1.entry i).pinned then retime i s1 else unpinEntry i s1

/-! ## The local mark (R25, R71) -/

/-- An entry gains the local mark (R25). -/
def gainMark (i : EntryId) (s : State) : State :=
  let e := s.entry i
  let s1 := modEntry i (fun e => { e with isLocal := true, hearing := none, lineDl := ⟨none, none⟩ }) s
  if e.pinned && decide (e.state = .live) then
    startLocalDeadline i (match e.hearing with
      | some h => modSup (countOut h) s1
      | none => s1)
  else s1

/-- An entry loses the local mark; a pinned one becomes watched, by its state (R25, R71). -/
def loseMark (i : EntryId) (s : State) : State :=
  let e := s.entry i
  let s1 := modEntry i (fun e => { e with isLocal := false, localDl := none }) s
  if e.pinned then
    match e.state with
    | .live => beginWatch i s1
    | .opened => modEntry i (fun e => { e with hearing := some ⟨.unheard, .unheard⟩ }) s1
    | .quiet => modEntry i (fun e => { e with hearing := some ⟨.silent, .silent⟩ }) s1
    | .vacant => s1
  else s1

/-- The local mark of one entry after ORIGIN has gone from `old` to `new` (R25). An ORIGIN of 0 names no entries, and a commit of
the value in force changes no mark (log entry 13). -/
def remark (old new : Origin) (i : EntryId) (s : State) : State :=
  match (s.entry i).key with
  | none => s
  | some k =>
    if old = new then s
    else if k.origin = old ∧ old ≠ 0 then loseMark i s
    else if k.origin = new ∧ new ≠ 0 then gainMark i s
    else s

/-! ## Arrivals (R22, R23) -/

/-- The effects of an arrival on its entry, other than the sequence record: hearing or local deadline of a pinned entry, place and
forget deadline of an unpinned one (R22, R23, R66, R70, R73). -/
def superviseArrival (i : EntryId) (x : Arrival) (was : EntryState) (s : State) : State :=
  let e := s.entry i
  if e.pinned then
    if e.isLocal then hearLocal i x.time (decide (was = .quiet)) s
    else
      match x.line with
      | some l => if was = .live then hearArrival i l x.time s else beginHearing i l x.time (decide (was = .quiet)) s
      | none => s
  else modRecency (toTail i) (modEntry i (fun e => { e with forgetDl := some (x.time + ms s.work.forget) }) s)

/-- An arrival at an existing entry: judged, stamped, supervised; a resync raises RESYNC at the subscribers with the new H (R52). -/
def arriveAt (i : EntryId) (x : Arrival) (s : State) : Judgement × State :=
  let e := s.entry i
  let j := e.judge x
  let s1 := superviseArrival i x e.state (modEntry i (fun _ => j.1.stamp x) s)
  (j.2, if j.2 = .resynced then raiseSet .resync (.resync e.key x.seq) e.subs s1 else s1)

/-- A local arrival: judged at the entry of its key if there is one; nothing is allocated (R23). The answer is the judgement and the
subscriber set, or none where there is no entry. -/
def localArrival (k : Key) (seq : Seq) (s : State) : Option (Judgement × PerPort Bool) × State :=
  match findKey k s with
  | none => (none, s)
  | some i =>
    let r := arriveAt i { seq := seq, line := none, time := s.clock } s
    (some (r.1, (r.2.entry i).subs), r.2)

end Sys2Proof.Machine
end

