-- ==== Sys2Proof/Machine/Deliver.lean ====
section
/-! DEFINITION. The Delivery Unit (R89 to R93), the receive checks of a line port (R3 to R9), and the Origin Unit (R111 to R113). -/

namespace Sys2Proof.Machine

open Sys2Proof

/-! ## Who receives a frame (section 5.3) -/

/-- The ports of a set that are PRESENT, less the originating port (R89, R90). -/
def presentOf (s : State) (ports : PerPort Bool) (sender : Option Port) : PerPort Bool :=
  ⟨ports.cp1 && s.ports.cp1.present && decide (sender ≠ some .cp1),
   ports.cp2 && s.ports.cp2.present && decide (sender ≠ some .cp2),
   ports.cp3 && s.ports.cp3.present && decide (sender ≠ some .cp3)⟩

/-- The ports that a destination address names: all for a multicast address, else those whose non-zero ADDRESS equals it (R91). -/
def addressed (s : State) (dst : Addr) : PerPort Bool :=
  if isMulticast dst then ⟨true, true, true⟩
  else
    ⟨decide (s.work.address.cp1 = dst) && decide (dst ≠ 0), decide (s.work.address.cp2 = dst) && decide (dst ≠ 0),
     decide (s.work.address.cp3 = dst) && decide (dst ≠ 0)⟩

/-- A set with no member. -/
def isNone (ports : PerPort Bool) : Bool := !ports.cp1 && !ports.cp2 && !ports.cp3

/-- A frame given to each port of a set, on the queue its class chooses. -/
def giveSet (urgent : Bool) (b : BufId) (ports : PerPort Bool) (s : State) : State :=
  allPorts.foldl (fun s p => if ports.get p then giveClient p urgent b s else s) s

/-- A tagged TRIP or SAMPLED frame given to the PRESENT subscribers less the originating port (R89). -/
def deliverSubscribers (cls : Cls) (subs : PerPort Bool) (sender : Option Port) (b : BufId) (s : State) : State :=
  giveSet (decide (cls = .trip)) b (presentOf s subs sender) s

/-- A frame given by its destination address to the PRESENT ports less the originating port (R91). -/
def deliverAddress (urgent : Bool) (sender : Option Port) (b : BufId) (s : State) : State :=
  giveSet urgent b (presentOf s (addressed s (frameDst (s.frameOf b))) sender) s

/-- GENERAL and untagged traffic from a line, by address; a unicast frame that matches no PRESENT port is counted unmatched (R91). -/
def deliverFromLine (l : Line) (b : BufId) (s : State) : State :=
  let dst := frameDst (s.frameOf b)
  if !isMulticast dst && isNone (presentOf s (addressed s dst) none) then
    modLineCtr l (fun c => { c with unmatched := satInc c.unmatched }) s
  else deliverAddress false none b s

/-! ## Line reception (R3 to R9) -/

/-- A tagged arrival handed on: judged at its entry or founding one (R22, R32), delivered if accepted (R62), and the reception's
reference released (R9). -/
def takeTagged (l : Line) (k : Key) (seq : Seq) (b : BufId) (s : State) : State :=
  let x : Arrival := { seq := seq, line := some l, time := s.clock }
  let handOn (subs : PerPort Bool) (s : State) : State :=
    match k.cls with
    | .general => deliverFromLine l b s
    | c => deliverSubscribers c subs none b s
  release b
    (match findKey k s with
     | none => handOn ⟨false, false, false⟩ (foundByArrival k x s)
     | some i =>
       let r := arriveAt i x s
       if r.1.accepts then handOn (r.2.entry i).subs r.2 else r.2)

/-- The pool asked for a reception's buffer; a refusal is counted as no-buffer at the line (R7, R8). -/
def takeLineBuffer (l : Line) (cls : Cls) (frame : List Byte) (s : State) : Option BufId × State :=
  match takeBuffer (.reception cls) frame s with
  | (some b, s1) => (some b, s1)
  | (none, s1) => (none, modLineCtr l (fun c => { c with noBuffer := satInc c.noBuffer }) s1)

/-- An untagged frame that passed R3: stored unchanged and handed on as GENERAL traffic (R7). -/
def receiveUntagged (l : Line) (data : List Byte) (s : State) : State :=
  match takeLineBuffer l .general data s with
  | (none, s1) => s1
  | (some b, s1) => release b (deliverFromLine l b (modLineCtr l (fun c => { c with untaggedIn := satInc c.untaggedIn }) s1))

/-- A tagged frame of a remote origin: crossed counted (R6), a buffer asked for under its class (R8), stored without the tag, counted
and handed on (R9). -/
def receiveRemote (l : Line) (data : List Byte) (k : Key) (tagLine : Line) (seq : Seq) (s : State) : State :=
  let s0 := if tagLine = l then s else modLineCtr l (fun c => { c with crossed := satInc c.crossed }) s
  match takeLineBuffer l k.cls (removeTag data) s0 with
  | (none, s1) => s1
  | (some b, s1) => takeTagged l k seq b (modLineCtr l (fun c => { c with taggedIn := satInc c.taggedIn }) s1)

/-- A frame that carries TAG_TYPE: malformed (R4), own-origin (R5), or remote (R6 to R9). `length` is that of the whole frame. -/
def receiveTagged (l : Line) (length : Nat) (data : List Byte) (s : State) : State :=
  let w := half data 14
  match keyClass w with
  | none => modLineCtr l (fun c => { c with badTag := satInc c.badTag }) s
  | some cls =>
    if validOrigin (keyOrigin w) = false ∨ length < 70 then
      modLineCtr l (fun c => { c with badTag := satInc c.badTag }) s
    else if isLocalOrigin s (keyOrigin w) then
      raisePresent .loop (.loop l (keyOrigin w)) (modLineCtr l (fun c => { c with ownOrigin := satInc c.ownOrigin }) s)
    else receiveRemote l data { origin := keyOrigin w, cls := cls } (keyLine w) (half data 16) s

/-- The receive checks of a line port on a completed frame, in their order (R2, R3). -/
def receiveLine (l : Line) (frame : List Byte) (s : State) : State :=
  if frame.length < 64 ∨ 1522 < frame.length ∨ checkMatches frame = false then
    modLineCtr l (fun c => { c with badCheck := satInc c.badCheck }) s
  else if frameType (frameData frame) = s.work.tagType then receiveTagged l frame.length (frameData frame) s
  else receiveUntagged l (frameData frame) s

/-! ## Origination (R111 to R113, R138) -/

/-- A copy placed for Line A and one for Line B, each under its own link state (R13). -/
def placeBoth (urgent : Bool) (e : LineEntry) (s : State) : State := placeCopy .b urgent e (placeCopy .a urgent e s)

/-- The value of a port's sequence counter taken, and the counter stepped (R111). -/
def takeSeq (p : Port) (cls : Cls) (s : State) : State :=
  modPort p (fun x => { x with seqs := x.seqs.set cls (x.seqs.get cls + 1) }) s

/-- What the Delivery Unit does with a tagged frame that port `p` has originated, by the outcome of its local arrival (R90). -/
def deliverOriginated (p : Port) (cls : Cls) (b : BufId) (outcome : Option (Judgement × PerPort Bool)) (s : State) : State :=
  match cls, outcome with
  | .general, none => deliverAddress false (some p) b s
  | .general, some (j, _) => if j.accepts then deliverAddress false (some p) b s else s
  | _, none => s
  | c, some (j, subs) => if j.accepts then deliverSubscribers c subs (some p) b s else s

/-- A frame of port `p` originated with a tag: the counter's value taken, one copy placed for each line, the local arrival made, and
the other ports served (R112, R138). -/
def originateTagged (p : Port) (cls : Cls) (b : BufId) (s : State) : State :=
  let tag : Tag := { origin := s.work.origin.get p, cls := cls, seq := (s.port p).seqs.get cls }
  let s1 := placeBoth (decide (cls = .trip)) { buf := b, tag := some tag } (takeSeq p cls s)
  let r := localArrival { origin := tag.origin, cls := cls } tag.seq s1
  deliverOriginated p cls b r.1 r.2

/-- A frame of port `p` sent untagged: copies with the untagged marker, no local arrival, delivery by address (R113, R90). -/
def originateUntagged (p : Port) (cls : Cls) (b : BufId) (s : State) : State :=
  deliverAddress (decide (cls = .trip)) (some p) b (placeBoth (decide (cls = .trip)) { buf := b, tag := none } s)

/-- The class of a client's frame by its type and the class map; TRIP where both sets hold the type (R103). -/
def classOf (w : Settings) (type : Word16) : Cls :=
  if type ∈ w.tripSet then .trip else if type ∈ w.sampledSet then .sampled else .general

/-- The other PRESENT ports that a unicast GENERAL frame matches (R92); none for any other frame. -/
def neighbours (s : State) (p : Port) (cls : Cls) (data : List Byte) : PerPort Bool :=
  if cls = .general ∧ isMulticast (frameDst data) = false then presentOf s (addressed s (frameDst data)) (some p)
  else ⟨false, false, false⟩

/-- A data frame of a client with its buffer: given to its neighbours alone, or originated with or without a tag; then the
reception's reference is released (R112, R113). -/
def originate (p : Port) (cls : Cls) (data : List Byte) (b : BufId) (s : State) : State :=
  let near := neighbours s p cls data
  release b
    (if isNone near = false then giveSet false b near (modPortCtr p (fun c => { c with neighbour := satInc c.neighbour }) s)
     else if s.work.origin.get p = 0 then
       originateUntagged p cls b (modPortCtr p (fun c => { c with untaggedOut := satInc c.untaggedOut }) s)
     else originateTagged p cls b (modPortCtr p (fun c => { c with taggedOut := satInc c.taggedOut }) s))

/-- A data frame of a client (R103): counted, a buffer asked for under its class, and originated; a refused frame is counted and
leaves no trace (R85). -/
def takeData (p : Port) (data : List Byte) (s : State) : State :=
  let cls := classOf s.work (frameType data)
  let s0 := modPortCtr p (fun c => { c with dataIn := satInc c.dataIn }) s
  match takeBuffer (.reception cls) data s0 with
  | (none, s1) => modPortCtr p (fun c => { c with noBuffer := satInc c.noBuffer }) s1
  | (some b, s1) => originate p cls data b s1

end Sys2Proof.Machine
end

