-- ==== Sys2Proof/Machine/Channels.lean ====
section
/-! DEFINITION. The publication channels (chapter 8) and the trip input lines (chapter 9): sends, bursts, the schedule, the channel
commands, owner loss, reconfiguration, and the filter. -/

namespace Sys2Proof.Machine

open Sys2Proof

/-! ## Flags and the CHANNEL notice (R144) -/

/-- CHANNEL raised at the port that is OWNER(c), present or absent: FINISHED (`none`), or FAILED with its cause. -/
def raiseOwner (c : ChanId) (failed : Option ChanCause) (s : State) : State :=
  match s.work.owner.get c with
  | some p => raiseAt .channel (.channel c failed) p s
  | none => s

/-- FAILED set with a cause, replacing a cause held before, and reported. -/
def failChan (c : ChanId) (cause : ChanCause) (s : State) : State :=
  raiseOwner c (some cause) (modChan c (fun x => { x with failed := some cause }) s)

/-- A next template released from its slot. -/
def dropNext (c : ChanId) (s : State) : State :=
  match (s.chan c).nxt with
  | some t => release t.buf (modChan c (fun x => { x with nxt := none }) s)
  | none => s

/-- A move to READY: no send time, and a next template released. -/
def toReady (c : ChanId) (s : State) : State :=
  dropNext c (modChan c (fun x => { x with state := .ready, sendTime := none }) s)

/-! ## Sends and the schedule (R136 to R138, R140) -/

/-- A send of a channel (R138): the owner's TRIP tag or the untagged marker, urgent copies on both lines, the local arrival, the other
ports, and the counts. -/
def chanSend (c : ChanId) (s : State) : State :=
  match s.work.owner.get c, (s.chan c).cur with
  | some p, some t =>
    modChan c (fun x => { x with sendCount := min (x.sendCount + 1) 65535, sends := satInc x.sends })
      (if s.work.origin.get p = 0 then originateUntagged p .trip t.buf s else originateTagged p .trip t.buf s)
  | _, _ => s

/-- The gap with index `k` of a schedule, in milliseconds (R137). -/
def gap (sc : Schedule) (k : Nat) : Nat := min (sc.tmin * 2 ^ k) sc.tmax

/-- The gap index after a gap: one more while the doubling has not reached Tmax (R137). -/
def nextIndex (sc : Schedule) (k : Nat) : Nat := if sc.tmin * 2 ^ k < sc.tmax then k + 1 else k

/-- The next send time set after a send scheduled at `at_`, and the gap index stepped (R137). -/
def setSendTime (c : ChanId) (at_ : Time) (s : State) : State :=
  modChan c (fun x => match x.cur with
    | some t => { x with sendTime := some (at_ + ms (gap t.sched x.k)), k := nextIndex t.sched x.k }
    | none => x) s

/-- The send just made was the N-th of a COMMAND or EDGE burst (R140); a LEVEL channel ignores N. -/
def burstDone (c : ChanId) (s : State) : Bool :=
  match s.work.trigger.get c, (s.chan c).cur with
  | .level _, _ => false
  | _, some t => decide (1 ≤ t.sched.n) && decide ((s.chan c).sendCount = t.sched.n)
  | _, none => false

/-- A burst end without a next template: READY and FINISHED for a COMMAND channel, ARMED and counted for an input channel (R140). -/
def finishBurst (c : ChanId) (s : State) : State :=
  match s.work.trigger.get c with
  | .command => raiseOwner c none (modChan c (fun x => { x with state := .ready, sendTime := none, finished := true }) s)
  | _ => modChan c (fun x => { x with state := .armed, sendTime := none, bursts := satInc x.bursts }) s

/-- The first send of a burst that begins or restarts: k and the send count at 0, SENDING, and a send at once (R136). -/
def firstSend (c : ChanId) (s : State) : State :=
  chanSend c (modChan c (fun x => { x with k := 0, sendCount := 0, state := .sending, sendTime := none }) s)

/-- After a send of a burst that has no next template. -/
def afterLastTemplate (c : ChanId) (at_ : Time) (s : State) : State :=
  if burstDone c s then finishBurst c s else setSendTime c at_ s

/-- A burst end: a next template becomes current and the burst restarts at once with it, else the burst finishes (R140). The next slot
is then absent, so the chained burst cannot chain again. -/
def endBurst (c : ChanId) (s : State) : State :=
  match (s.chan c).nxt with
  | some t =>
    let s1 := modChan c (fun x => { x with cur := some t, nxt := none, chained := satInc x.chained }) s
    let s2 := match (s.chan c).cur with
      | some old => release old.buf s1
      | none => s1
    afterLastTemplate c s2.clock (firstSend c s2)
  | none => finishBurst c s

/-- After a send scheduled at `at_`: the burst ends if it was the N-th, else the next send time is set (R137, R140). -/
def afterSend (c : ChanId) (at_ : Time) (s : State) : State :=
  if burstDone c s then endBurst c s else setSendTime c at_ s

/-- A burst begins or restarts (R136). -/
def beginBurst (c : ChanId) (s : State) : State := afterSend c s.clock (firstSend c s)

/-- The expiry of a channel's send time (R139, R153). -/
def sendTimeExpires (c : ChanId) (due : Time) (s : State) : State :=
  match (s.chan c).state, s.work.trigger.get c with
  | .sending, .level n =>
    if (s.input n).filtered then afterSend c due (chanSend c s)
    else modChan c (fun x => { x with state := .armed, sendTime := none, bursts := satInc x.bursts }) s
  | .sending, _ => afterSend c due (chanSend c s)
  | .stopping, _ => failChan c .stopped (toReady c s)
  | _, _ => s

/-! ## Owner loss and reconfiguration (R145, R146) -/

/-- The channels that an owner's change to ABSENT ends: COMMAND channels of it in SENDING or STOPPING (R145). -/
def lostChannels (p : Port) (s : State) : List ChanId :=
  (List.finRange Config.nChannels).filter (fun c =>
    decide (s.work.owner.get c = some p) && decide (s.work.trigger.get c = .command) &&
      (decide ((s.chan c).state = .sending) || decide ((s.chan c).state = .stopping)))

/-- The owner of channels becomes ABSENT; the channels' order is free (R145, log entry 3). -/
def ownerLost (p : Port) (s : State) : State :=
  let cs := lostChannels p s
  (freeOrder s.choices cs).foldl (fun s c => failChan c .ownerLost (toReady c s)) (noteChoice cs s)

/-- A template slot's reference released. -/
def dropTemplate (t : Option Template) (s : State) : State :=
  match t with
  | some t => release t.buf s
  | none => s

/-- A commit of OWNER(c) or TRIGGER(c) empties the channel; CHANNEL goes to the owner before and to a different owner after (R146). -/
def reconfigure (c : ChanId) (before : Option Port) (s : State) : State :=
  let x := s.chan c
  let s1 := modChan c (fun _ => { Channel.fresh with failed := some .reconfigured }) s
  let s2 := dropTemplate x.nxt (dropTemplate x.cur s1)
  let after := s.work.owner.get c
  let s3 := match before with
    | some p => raiseAt .channel (.channel c (some .reconfigured)) p s2
    | none => s2
  match after with
  | some q => if before = some q then s3 else raiseAt .channel (.channel c (some .reconfigured)) q s3
  | none => s3

/-! ## Channel commands (R130 to R135, R141 to R143) -/

/-- What a command answers: its outcome, the body of its REPLY, and the state its effects leave. -/
structure Answer where
  outcome : RepOutcome
  body : ReplyBody
  state : State

/-- The body of a REPLY to a channel command: the channel as it stands (R130). -/
def chanBody (chan : Byte) (sched : Option Schedule) (s : State) : ReplyBody :=
  if h : chan.toNat < Config.nChannels then
    let x := s.chan ⟨chan.toNat, h⟩
    .channel chan (some { state := x.state, finished := x.finished, failed := x.failed, sched := sched })
  else .channel chan none

/-- A channel command judged by number and owner (R130); what remains of its judgement is `act`, which answers the outcome, the schedule
that a template command stored, and the state. -/
def chanCommand (p : Port) (chan : Byte) (act : ChanId → RepOutcome × Option Schedule × State) (s : State) : Answer :=
  if h : chan.toNat < Config.nChannels then
    if s.work.owner.get ⟨chan.toNat, h⟩ = some p then
      let r := act ⟨chan.toNat, h⟩
      { outcome := r.1, body := chanBody chan r.2.1 r.2.2, state := r.2.2 }
    else { outcome := .notOwner, body := chanBody chan none s, state := s }
  else { outcome := .badValue, body := chanBody chan none s, state := s }

/-- A clamped schedule (R131). -/
def clampSchedule (tmin tmax n : Word16) : Schedule :=
  { tmin := max 1 (min tmin.toNat 1000), tmax := max 1 (min tmax.toNat 60000), n := n.toNat }

/-- A template's type stands in the TRIP set in force (R131). -/
def isTripType (s : State) (template : List Byte) : Bool := decide (frameType template ∈ s.work.tripSet)

/-- LOAD at a channel (R132). -/
def loadChan (c : ChanId) (sc : Schedule) (template : List Byte) (s : State) : RepOutcome × Option Schedule × State :=
  if (s.chan c).state ≠ .empty ∧ (s.chan c).state ≠ .ready then (.state, none, s)
  else if template.length < 64 then (.badValue, none, s)
  else
    match takeBuffer .template template s with
    | (none, s1) => (.noBuffer, none, s1)
    | (some b, s1) =>
      (.done, some sc, dropTemplate (s.chan c).cur
        (modChan c (fun x => { x with cur := some { buf := b, sched := sc }, state := .ready }) s1))

/-- The new template of a REPLACE becomes current under the schedule in force, and the old one is released (R133). -/
def swapTemplate (c : ChanId) (b : BufId) (s : State) : State :=
  match (s.chan c).cur with
  | some t => release t.buf (modChan c (fun x => { x with cur := some { buf := b, sched := t.sched } }) s)
  | none => s

/-- REPLACE at a channel (R133). -/
def replaceChan (c : ChanId) (template : List Byte) (s : State) : RepOutcome × Option Schedule × State :=
  let x := s.chan c
  if x.state = .empty ∨ x.state = .stopping then (.state, none, s)
  else if template.length < 64 then (.badValue, none, s)
  else if x.state ≠ .ready ∧ isTripType s template = false then (.badValue, none, s)
  else
    match takeBuffer .template template s with
    | (none, s1) => (.noBuffer, none, s1)
    | (some b, s1) =>
      let s2 := swapTemplate c b s1
      (.done, x.cur.map Template.sched, if x.state = .sending then beginBurst c s2 else s2)

/-- CHAIN may be taken: SENDING or ARMED, a counted burst, and no LEVEL trigger (R134). -/
def chainTaken (c : ChanId) (s : State) : Bool :=
  let x := s.chan c
  (decide (x.state = .sending) || decide (x.state = .armed)) &&
    (match x.cur with | some t => decide (1 ≤ t.sched.n) | none => false) &&
    (match s.work.trigger.get c with | .level _ => false | _ => true)

/-- CHAIN at a channel (R134). -/
def chainChan (c : ChanId) (sc : Schedule) (template : List Byte) (s : State) : RepOutcome × Option Schedule × State :=
  if chainTaken c s = false then (.state, none, s)
  else if template.length < 64 ∨ isTripType s template = false ∨ sc.tmax < sc.tmin then (.badValue, none, s)
  else
    match takeBuffer .template template s with
    | (none, s1) => (.noBuffer, none, s1)
    | (some b, s1) =>
      (.done, some sc, dropTemplate (s.chan c).nxt (modChan c (fun x => { x with nxt := some { buf := b, sched := sc } }) s1))

/-- CLEAR at a channel (R135). -/
def clearChan (c : ChanId) (s : State) : RepOutcome × Option Schedule × State :=
  (.done, none, modChan c (fun x => { x with finished := false, failed := none }) s)

/-- The start check of a READY channel: the cause that fails it, if one does (R141). -/
def startCheck (c : ChanId) (s : State) : Option ChanCause :=
  match (s.chan c).cur with
  | some t =>
    if t.sched.tmax < t.sched.tmin then some .badSchedule
    else if isTripType s (s.frameOf t.buf) = false then some .noTemplate
    else none
  | none => some .noTemplate

/-- A START whose check has passed: a COMMAND channel begins a burst; an input channel is ARMED, and a LEVEL channel whose line is high
begins its burst at once (R142, R153). -/
def startRun (c : ChanId) (s : State) : State :=
  match s.work.trigger.get c with
  | .command => beginBurst c s
  | .edge _ => modChan c (fun x => { x with state := .armed }) s
  | .level n =>
    let s1 := modChan c (fun x => { x with state := .armed }) s
    if (s.input n).filtered then beginBurst c s1 else s1

/-- START at a channel (R142). -/
def startChan (c : ChanId) (s : State) : RepOutcome × Option Schedule × State :=
  match (s.chan c).state with
  | .empty => (.done, none, failChan c .noTemplate s)
  | .ready =>
    if (s.chan c).finished ∨ (s.chan c).failed.isSome then (.done, none, failChan c .uncleared s)
    else
      match startCheck c s with
      | some cause => (.done, none, failChan c cause s)
      | none => (.done, none, startRun c s)
  | _ => (.state, none, s)

/-- STOP at a channel (R143). -/
def stopChan (c : ChanId) (s : State) : RepOutcome × Option Schedule × State :=
  match (s.chan c).state with
  | .sending => (.done, none, modChan c (fun x => { x with state := .stopping }) s)
  | .armed => (.done, none, failChan c .stopped (toReady c s))
  | _ => (.state, none, s)

/-! ## Input lines (R149 to R153) -/

/-- The channels whose TRIGGER names a line, as EDGE or as LEVEL (R150), in rising number, which an INPUTS snapshot shows (DESIGN CHOICE, log
entry 29); the order in which they take an edge is free (log entry 3). -/
def namingChannels (n : InputId) (s : State) : List ChanId :=
  (List.finRange Config.nChannels).filter (fun c =>
    decide (s.work.trigger.get c = .edge n) || decide (s.work.trigger.get c = .level n))

/-- A rising edge at a channel that names the line (tables of R152 and R153). -/
def risingAt (c : ChanId) (s : State) : State :=
  match s.work.trigger.get c, (s.chan c).state with
  | .edge _, .armed | .edge _, .sending => beginBurst c s
  | .level _, .armed => beginBurst c s
  | _, _ => s

/-- A filtered change: the filtered level takes the raw value, the edge is counted, and a rising edge is handed to each channel that names
the line, in a free order (R150, log entry 3). A falling edge acts on no channel (R152, R153). -/
def filteredChange (n : InputId) (s : State) : State :=
  let up := (s.input n).raw
  let s1 := modInput n (fun x =>
    if up then { x with filtered := true, change := none, rising := satInc x.rising }
    else { x with filtered := false, change := none, falling := satInc x.falling }) s
  if up then
    let cs := namingChannels n s1
    (freeOrder s1.choices cs).foldl (fun s c => risingAt c s) (noteChoice cs s1)
  else s1

/-- A raw level that has come to differ from the filtered level: a pending change is set for FILTER(n) ahead, or with a FILTER(n) of 0 the
filtered level follows at once (R149, R151). -/
def startFilter (n : InputId) (s : State) : State :=
  if s.work.filter.get n = 0 then filteredChange n s
  else modInput n (fun x => { x with change := some (s.clock + ms (s.work.filter.get n)) }) s

/-- A raw level change outside STARTING (R149). -/
def rawChange (n : InputId) (level : Bool) (s : State) : State :=
  let s1 := modInput n (fun x => { x with raw := level }) s
  match (s.input n).change with
  | some _ => modInput n (fun x => { x with change := none, cancelled := satInc x.cancelled }) s1
  | none => if level = (s.input n).filtered then s1 else startFilter n s1

end Sys2Proof.Machine
end

