-- ==== Sys2Proof/Machine/Attend.lean ====
section
/-! DEFINITION. Client ports: the attendance window (R106), becoming ABSENT and PRESENT (R107, R96, R98, R100, R173), and the subscription
list with its commands (chapter 7). -/

namespace Sys2Proof.Machine

open Sys2Proof

/-! ## Attendance (R106) -/

/-- The end that a window gets at a start or restart now; none while ATTEND(p) is OFF. -/
def windowEnd (p : Port) (s : State) : Option Time := (s.work.attend.get p).map (fun n => s.clock + ms n)

/-- The attendance window started or restarted. -/
def restartWindow (p : Port) (s : State) : State := modPort p (fun x => { x with window := windowEnd p s }) s

/-! ## Becoming ABSENT (R107) -/

/-- The queues and the reply lane of a port emptied: urgent, then routine, each entry released and counted flushed (R96); lane frames
counted lane flushed (R98). -/
def flushPort (p : Port) (s : State) : State :=
  let x := s.port p
  releaseAll (x.urgent ++ x.routine)
    (modPort p (fun x => { x with
      urgent := [], routine := [], lane := [],
      ctr := { x.ctr with flushed := satAdd x.ctr.flushed (x.urgent.length + x.routine.length),
                          laneFlushed := satAdd x.ctr.laneFlushed x.lane.length } }) s)

/-- A cause in service returned to pending with the count its notice carried, and the slot emptied (R173). -/
def NoticeUnit.returned (n : NoticeUnit) : NoticeUnit :=
  match n.slot with
  | some (c, k) =>
    { causes := updAt n.causes c.idx (fun r => { r with pending := true, count := satAdd r.count k.toNat }), slot := none }
  | none => n

/-- PEER raised at each PRESENT port other than the one that changed (R116). -/
def raisePeer (p : Port) (present : Bool) (reason : PeerReason) (s : State) : State :=
  raiseSet .peer (.peer p present reason) (presentOf s ⟨true, true, true⟩ (some p)) s

/-- A PRESENT port becomes ABSENT (R107): window ended, transmission cut off, queues and lane flushed, its notice returned, its proposals
removed (R161), its COMMAND bursts ended (R145), and PEER raised. -/
def becomeAbsent (p : Port) (reason : PeerReason) (s : State) : State :=
  let s1 := modPort p (fun x => { x with present := false, window := none }) s
  let s2 := flushPort p (cutClientTx p s1)
  let s3 := modProposals (fun ps => ps.filter (fun q => decide (q.port ≠ p))) (modNotice p NoticeUnit.returned s2)
  raisePeer p false reason (ownerLost p s3)

/-- A port becomes PRESENT: its window starts, and PEER is raised (R107). -/
def becomePresent (p : Port) (reason : PeerReason) (s : State) : State :=
  raisePeer p true reason (restartWindow p (modPort p (fun x => { x with present := true }) s))

/-! ## The subscription list (R117, R120 to R124) -/

/-- A hold time clamped into 2 to 65535 ms (R119). -/
def clampHold (hold : BitVec 32) : Nat := max 2 (min hold.toNat 65535)

/-- A port's list holds a key. -/
def holdsKey (s : State) (p : Port) (k : Key) : Bool := (s.port p).subs.any (fun m => decide (m.key = k))

/-- A key added to a port's list, at its tail, with its effect on the entry: found and joined, pinned, or allocated OPEN (R120). -/
def addKey (p : Port) (k : Key) (hold : Nat) (s : State) : State :=
  let s1 := modPort p (fun x => { x with subs := x.subs ++ [{ key := k, hold := hold }] }) s
  match findKey k s1 with
  | none => foundBySubscribe k p hold s1
  | some i => if (s1.entry i).pinned then joinSubscribers i p s1 else pinEntry i p hold s1

/-- The hold time of a member replaced, the member keeping its place, and T recomputed (R121). -/
def replaceHold (p : Port) (k : Key) (hold : Nat) (s : State) : State :=
  let s1 := modPort p (fun x => { x with subs := x.subs.map (fun m => if m.key = k then { m with hold := hold } else m) }) s
  match findKey k s1 with
  | some i => retime i s1
  | none => s1

/-- A key removed from a port's list, with its effect on the entry (R122, R124). -/
def removeKey (p : Port) (k : Key) (s : State) : State :=
  let s1 := modPort p (fun x => { x with subs := x.subs.filter (fun m => decide (m.key ≠ k)) }) s
  match findKey k s1 with
  | some i => leaveSubscribers i p s1
  | none => s1

/-- Every member removed, from the head of the list to its tail (R124). -/
def clearList (p : Port) (s : State) : State := (s.port p).subs.foldl (fun s m => removeKey p m.key s) s

/-- What a REPLY to SUBSCRIBE says of the entry once the command has been taken in full (R127). -/
def subscribedBody (p : Port) (k : Key) (hold : Nat) (s : State) : ReplyBody :=
  match findKey k s with
  | some i =>
    .subscribe (some (hold, (s.entry i).state, (s.entry i).sup, (s.entry i).hearing)) (s.port p).subs.length
  | none => .subscribe (some (hold, .vacant, none, none)) (s.port p).subs.length

/-- What a REPLY to UNSUBSCRIBE says of the entry after the command; a freed entry is VACANT (R127). -/
def unsubscribedBody (p : Port) (k : Key) (s : State) : ReplyBody :=
  match findKey k s with
  | some i => .unsubscribe (some ((s.entry i).state, (s.entry i).sup)) (s.port p).subs.length
  | none => .unsubscribe (some (.vacant, none)) (s.port p).subs.length

/-- SUBSCRIBE from a PRESENT port (R118). -/
def subscribeAt (p : Port) (w : Word16) (hold : BitVec 32) (s : State) : Answer :=
  let refuse (o : RepOutcome) : Answer := { outcome := o, body := .subscribe none (s.port p).subs.length, state := s }
  if validOrigin (keyOrigin w) = false then refuse .badValue
  else
    match keyClass w with
    | none | some .general => refuse .badValue
    | some cls =>
      let k : Key := { origin := keyOrigin w, cls := cls }
      let T := clampHold hold
      if holdsKey s p k then
        let s1 := replaceHold p k T s
        { outcome := .done, body := subscribedBody p k T s1, state := s1 }
      else if Config.listPlaces ≤ (s.port p).subs.length then refuse .limit
      else
        let s1 := addKey p k T s
        { outcome := .done, body := subscribedBody p k T s1, state := s1 }

/-- UNSUBSCRIBE from a PRESENT port (R122). -/
def unsubscribeAt (p : Port) (w : Word16) (s : State) : Answer :=
  let refuse (o : RepOutcome) : Answer := { outcome := o, body := .unsubscribe none (s.port p).subs.length, state := s }
  if validOrigin (keyOrigin w) = false then refuse .badValue
  else
    match keyClass w with
    | none => refuse .badValue
    | some cls =>
      let k : Key := { origin := keyOrigin w, cls := cls }
      if holdsKey s p k then
        let s1 := removeKey p k s
        { outcome := .done, body := unsubscribedBody p k s1, state := s1 }
      else refuse .unknownKey

end Sys2Proof.Machine
end

