-- ==== Sys2Proof/Machine/Shared.lean ====
section
/-! DEFINITION. The Settings Unit (chapter 10): judging an offered value, the settings image, proposals, commits with their effects, and the
bay restart. -/

namespace Sys2Proof.Machine

open Sys2Proof

/-! ## Judging an offer (R156) -/

/-- A value taken to the nearest end of its range. -/
def clampTo (lo hi n : Nat) : Nat := max lo (min n hi)

/-- A type put into a rising list without repeats. -/
def insertType (x : Word16) : List Word16 → List Word16
  | [] => [x]
  | y :: ys => if x.toNat < y.toNat then x :: y :: ys else if x = y then y :: ys else y :: insertType x ys

/-- A set of types in its one form: rising, each once (R156). -/
def typeSet (xs : List Word16) : List Word16 := xs.foldr insertType []

/-- The first `n` two-byte slots of a CLASS_MAP value from an offset (R178). -/
def slots (v : List Byte) (off n : Nat) : List Word16 := (List.range n).map (fun i => half v (off + 2 * i))

/-- The trigger of a TRIGGER value (R178). -/
def triggerOf (n : Nat) : Option Trigger :=
  if n = 0 then some .command
  else if h : 0x10 ≤ n ∧ n - 0x10 < Config.nInputs then some (.edge ⟨n - 0x10, h.2⟩)
  else if h : 0x20 ≤ n ∧ n - 0x20 < Config.nInputs then some (.level ⟨n - 0x20, h.2⟩)
  else none

/-- Another port holds an origin (R156). -/
def heldByOther (w : Settings) (p : Port) (o : Origin) : Bool :=
  allPorts.any (fun q => decide (q ≠ p) && decide (w.origin.get q = o))

/-- A value offered for an item, judged against a working copy (R156): clamped, refused BAD_VALUE or DUPLICATE, or taken as it is. -/
def judgeOffer (w : Settings) (item : Item) (v : List Byte) : Except RepOutcome Setting :=
  let n := beNat v
  match item with
  | .origin p =>
    if 4000 < n then .error .badValue
    else if n ≠ 0 ∧ heldByOther w p (BitVec.ofNat 12 n) then .error .duplicate
    else .ok (.origin p (BitVec.ofNat 12 n))
  | .address p => .ok (.address p (addrAt v 0))
  | .attend p => .ok (.attend p (if n = 0xFFFF then none else some (clampTo 10 5000 n)))
  | .tagType => if BitVec.ofNat 16 n = w.controlType then .error .badValue else .ok (.tagType (BitVec.ofNat 16 n))
  | .controlType => if BitVec.ofNat 16 n = w.tagType then .error .badValue else .ok (.controlType (BitVec.ofNat 16 n))
  | .classMap =>
    if 4 < (byteAt v 0).toNat ∨ 4 < (byteAt v 9).toNat then .error .badValue
    else .ok (.classMap (typeSet (slots v 1 (byteAt v 0).toNat)) (typeSet (slots v 10 (byteAt v 9).toNat)))
  | .settle => .ok (.settle (clampTo 0 5000 n))
  | .forget => .ok (.forget (clampTo 100 60000 n))
  | .owner c => if n = 0 then .ok (.owner c none) else match portOf n with | some q => .ok (.owner c (some q)) | none => .error .badValue
  | .trigger c => match triggerOf n with | some t => .ok (.trigger c t) | none => .error .badValue
  | .filter i => .ok (.filter i (clampTo 0 20 n))
  | .restart => .ok .restart

/-- An offer by item code and index: BAD_VALUE for an unknown item or index (R156). -/
def judgeOfferCode (w : Settings) (code index : Byte) (v : List Byte) : Except RepOutcome Setting :=
  match itemOf code.toNat index.toNat with
  | some item => judgeOffer w item v
  | none => .error .badValue

/-- A judged value put into the working copy; RESTART has none. -/
def Settings.apply (w : Settings) : Setting → Settings
  | .origin p v => { w with origin := w.origin.set p v }
  | .address p v => { w with address := w.address.set p v }
  | .attend p v => { w with attend := w.attend.set p v }
  | .tagType v => { w with tagType := v }
  | .controlType v => { w with controlType := v }
  | .classMap t s => { w with tripSet := t, sampledSet := s }
  | .settle v => { w with settle := v }
  | .forget v => { w with forget := v }
  | .owner c v => { w with owner := updAt w.owner c (fun _ => v) }
  | .trigger c v => { w with trigger := updAt w.trigger c (fun _ => v) }
  | .filter n v => { w with filter := updAt w.filter n (fun _ => v) }
  | .restart => w

/-! ## The settings image (R157, R158) -/

/-- What applying the records has come to: the working copy, and the refused records. -/
structure ImageResult where
  work : Settings
  bad : Option BadItems

/-- A refused record counted; the first one is kept (R158). -/
def ImageResult.refuse (r : ImageResult) (x : ImageRecord) : Option BadItems :=
  match r.bad with
  | none => some { count := 1, code := x.code, index := x.index }
  | some b => some { b with count := b.count + 1 }

/-- One record applied to the working copy as the records before it have left it; a refused record leaves its item at its default (R158). Where one
item has a good and a refused record the later of the two decides, which R158's table and its text leave to inference (DEDUCED, log entry 12). -/
def applyRecord (r : ImageResult) (x : ImageRecord) : ImageResult :=
  match itemOf x.code.toNat x.index.toNat with
  | none => { r with bad := r.refuse x }
  | some item =>
    if valueLength x.code.toNat ≠ some x.value.length then
      { work := r.work.apply (Settings.default.valueOf item), bad := r.refuse x }
    else
      match judgeOffer r.work item x.value with
      | .ok v => { r with work := r.work.apply v }
      | .error _ => { work := r.work.apply (Settings.default.valueOf item), bad := r.refuse x }

/-- The image judged (R158): its status, the working copy, and the refused records. -/
def judgeImage (memory : Option (List Byte)) : ImageStatus × ImageResult :=
  match readImage memory with
  | none => (.unreadable, { work := .default, bad := none })
  | some (_, false) => (.badCheck, { work := .default, bad := none })
  | some (rs, true) =>
    let r := rs.foldl applyRecord { work := .default, bad := none }
    (if r.bad.isSome then .badItem else .good, r)

/-! ## Settle timers (R10, R11) -/

/-- The settle timer of a SETTLING port started now, or the port straight to UP when SETTLE is 0 (R10). -/
def startSettle (l : Line) (s : State) : State :=
  if s.work.settle = 0 then modLine l (fun x => { x with link := .up, settleStart := none }) s
  else modLine l (fun x => { x with link := .settling, settleStart := some s.clock }) s

/-- A commit of SETTLE at a running timer: its end is its start plus the new SETTLE, and it expires at once if that is past or 0 (R11). -/
def resettle (l : Line) (s : State) : State :=
  match (s.line l).link, (s.line l).settleStart with
  | .settling, some t =>
    if isPast s.clock t s.work.settle then modLine l (fun x => { x with link := .up, settleStart := none }) s else s
  | _, _ => s

/-! ## The end of STARTING (R157) -/

/-- A held settle timer starts when STARTING ends (R10). -/
def releaseSettle (l : Line) (s : State) : State := if (s.line l).link = .settling then startSettle l s else s

/-- An input line whose raw level is high sets its pending change, or makes its edge, when STARTING ends (R151). -/
def releaseFilter (n : InputId) (s : State) : State := if (s.input n).raw then startFilter n s else s

/-- The completion of the settings image read, in one step (R157, R158). -/
def imageRead (memory : Option (List Byte)) (s : State) : State :=
  let r := judgeImage memory
  let s1 : State := { s with settings := { s.settings with work := r.2.work, status := r.1, bad := r.2.bad },
                             starting := false, startEnd := s.clock }
  let s2 := if r.1 = .good then s1 else raiseSet .imageFault (.imageFault r.1 r.2.bad) ⟨true, true, true⟩ s1
  (List.finRange Config.nInputs).foldl (fun s n => releaseFilter n s) (releaseSettle .b (releaseSettle .a s2))

/-! ## Bay restart (R166) -/

/-- What a link last carried after a bay restart: a transmission under way was ended with an invalid frame check (R19, R100). -/
def endedWire (wire : Option (List Byte)) (sent : Option Sent) : Option Sent :=
  match wire with
  | some w => some ⟨.invalidCheck, w⟩
  | none => sent

/-- A line port after a bay restart: its link state kept, a settle timer held, all else at power-on (R19). -/
def restartLine (x : LinePort) : LinePort := .fresh x.link (endedWire (x.tx.map LineTx.wire) x.sent)

/-- A client port after a bay restart: its link state kept, ABSENT, all else at power-on (R110). -/
def restartPortState (x : ClientPort) : ClientPort := .fresh x.linkUp (endedWire (x.tx.map ClientTx.wire) x.sent)

/-- A bay restart: power-on values, but for the link states, the raw input levels, and the ending of transmissions (R166). -/
def bayRestart (s : State) : State :=
  { State.powerOn s.pending s.choices (s.inputs.map InputLine.raw) with
    lines := ⟨restartLine s.lines.a, restartLine s.lines.b⟩,
    ports := ⟨restartPortState s.ports.cp1, restartPortState s.ports.cp2, restartPortState s.ports.cp3⟩ }

/-! ## Commits (R162, R164) -/

/-- The effects of a commit on the blocks that read the item, with the value already in force; `old` is the working copy before (R164). -/
def commitEffects (old : Settings) (v : Setting) (s : State) : State :=
  match v with
  | .origin p o => forEntries (remark (old.origin.get p) o) (modPort p (fun x => { x with seqs := ⟨0, 0, 0⟩ }) s)
  | .settle _ => resettle .b (resettle .a s)
  | .forget _ => forEntries reforget s
  | .owner c _ => reconfigure c (old.owner.get c) s
  | .trigger c _ => reconfigure c (old.owner.get c) s
  | .address _ _ | .attend _ _ | .tagType _ | .controlType _ | .classMap _ _ | .filter _ _ | .restart => s

/-- CONCURRENCE raised at every PRESENT port, with the figures as they stand after the occurrence (R159, R162, R163). -/
def raiseConcurrence (v : Setting) (out : ConcOutcome) (values : List Setting) (ports : List Port) (s : State) : State :=
  raisePresent .concurrence (.concurrence v.item out values ports s.settings.fig) s

/-- A commit of an item other than RESTART, in the order of R162; `other` proposed it and `p` matched it, and their ports stand so in the
subject (DEDUCED, log entry 17). -/
def commit (other p : Port) (v : Setting) (s : State) : State :=
  let s1 := modWork (fun w => w.apply v) (modProposals (fun ps => ps.filter (fun q => decide (q.setting.item ≠ v.item))) s)
  let s2 := modFig (fun f => { f with commits := satInc f.commits }) (commitEffects s.work v s1)
  raiseConcurrence v .committed [v] [other, p] s2

/-! ## Proposals (R159 to R161) -/

/-- The proposal that stands for an item. -/
def standingFor (s : State) (item : Item) : Option Proposal := s.settings.proposals.find? (fun q => decide (q.setting.item = item))

/-- The expiry time of a proposal taken now (R159). -/
def proposalEnd (s : State) : Time := s.clock + ms Config.proposalLife

/-- The body of a REPLY to PROPOSE (R159). -/
def proposeBody (result : Option ProposeResult) (v : Option Setting) (expiry : Option Time) (s : State) : ReplyBody :=
  .propose result v s.settings.proposals.length expiry

/-- What a PROPOSE answers: a reply, or (`none`) no reply, for a commit of RESTART (R162, R166). -/
abbrev Reaction := Option (RepOutcome × ReplyBody) × State

/-- The port's own proposal for the item replaced: the new value and a new expiry, in its place (R159). -/
def renewProposal (v : Setting) (s : State) : State :=
  modProposals (fun ps => ps.map (fun q => if q.setting.item = v.item then { q with setting := v, expiry := proposalEnd s } else q)) s

/-- A conflict: both proposals are thrown away (R159). The standing proposal's value and port stand first in the subject (DEDUCED, log entry 17). -/
def conflict (other p : Port) (mine theirs : Setting) (s : State) : State :=
  raiseConcurrence mine .conflict [theirs, mine] [other, p]
    (modFig (fun f => { f with conflicts := satInc f.conflicts })
      (modProposals (fun ps => ps.filter (fun q => decide (q.setting.item ≠ mine.item))) s))

/-- PROPOSE of a judged value (table of R159). -/
def proposeValue (p : Port) (v : Setting) (s : State) : Reaction :=
  match standingFor s v.item with
  | some q =>
    if q.port = p then
      let s1 := renewProposal v s
      (some (.done, proposeBody (some .standing) (some v) (some (proposalEnd s)) s1), s1)
    else if q.setting = v then
      if v = .restart then (none, bayRestart s)
      else
        let s1 := commit q.port p v s
        (some (.done, proposeBody (some .committed) (some v) none s1), s1)
    else
      let s1 := conflict q.port p v q.setting s
      (some (.done, proposeBody (some .conflict) (some v) none s1), s1)
  | none =>
    if Config.proposalPlaces ≤ s.settings.proposals.length then
      let s1 := modFig (fun f => { f with busy := satInc f.busy }) s
      (some (.busy, proposeBody none (some v) none s1), s1)
    else
      let s1 := modProposals (fun ps => ps ++ [{ port := p, setting := v, expiry := proposalEnd s }]) s
      (some (.done, proposeBody (some .standing) (some v) (some (proposalEnd s)) s1), s1)

/-- PROPOSE from a PRESENT port (R159). -/
def proposeAt (p : Port) (code index : Byte) (value : List Byte) (s : State) : Reaction :=
  match judgeOfferCode s.work code index value with
  | .ok v => proposeValue p v s
  | .error o => (some (o, proposeBody none none none s), s)

/-- A proposal lapses: removed, and CONCURRENCE raised at its proposer alone (R160). -/
def lapse (q : Proposal) (s : State) : State :=
  let s1 := modFig (fun f => { f with lapses := satInc f.lapses })
    (modProposals (fun ps => ps.filter (fun r => decide (r.setting.item ≠ q.setting.item))) s)
  raiseAt .concurrence (.concurrence q.setting.item .lapsed [q.setting] [] s1.settings.fig) q.port s1

/-- WITHDRAW from a PRESENT port (R161). -/
def withdrawAt (p : Port) (code index : Byte) (s : State) : RepOutcome × State :=
  match itemOf code.toNat index.toNat with
  | none => (.badValue, s)
  | some item =>
    match standingFor s item with
    | some q =>
      if q.port = p then (.done, modProposals (fun ps => ps.filter (fun r => decide (r.setting.item ≠ item))) s)
      else (.state, s)
    | none => (.state, s)

end Sys2Proof.Machine
end

