-- ==== Sys2Proof/Machine/Control.lean ====
section
/-! DEFINITION. Control frames (chapter 11): QUERY snapshots, ENABLE, ACK, the form check, the handling of a control frame by port state
(R104), and the REPLY. -/

namespace Sys2Proof.Machine

open Sys2Proof

/-! ## Snapshots (R175) -/

/-- The number of entries for which a test holds. -/
def countEntries (f : Entry → Bool) (s : State) : Nat := ((List.finRange Config.nEntries).filter (fun i => f (s.entry i))).length

/-- The STREAM snapshot of a key (R40). -/
def streamSnapshot (k : Key) (s : State) : Snapshot :=
  let num := findKey k s
  .stream num (match num with | some i => s.entry i | none => Entry.vacant) s.table.ctr
    (countEntries (fun e => decide (e.state = .vacant)) s) (countEntries Entry.pinned s) s.table.recency.length

/-- The settle time that remains while SETTLING (R17), in microseconds, a unit that no rule gives (DESIGN CHOICE, log entry 26). -/
def settleRemaining (l : Line) (s : State) : Option Time :=
  match (s.line l).link, (s.line l).settleStart with
  | .settling, some t => some (t + ms s.work.settle - s.clock)
  | _, _ => none

/-- The LINE snapshot (R17, R82, R101), the urgent queue's count before the routine queue's (DESIGN CHOICE, log entry 27). -/
def lineSnapshot (l : Line) (s : State) : Snapshot :=
  let x := s.line l
  .line x.ctr x.link (settleRemaining l s) x.urgent.length x.routine.length (verdict s l) (s.sup.silent.get l) s.sup.pinnedLive

/-- The causes of a port for which a test of their record holds. -/
def NoticeUnit.causesWith (n : NoticeUnit) (f : CauseRecord → Bool) : List Cause := Cause.all.filter (fun c => f (n.of c))

/-- The PORT snapshot (R115, R101, R88, R117). The time left in the window is in microseconds, a unit that no rule gives (DESIGN CHOICE, log
entry 26). -/
def portSnapshot (q : Port) (s : State) : Snapshot :=
  let x := s.port q
  .port x.ctr x.present x.linkUp (x.window.map (fun t => t - s.clock)) x.seqs x.urgent.length x.lane.length x.routine.length
    s.pool.free s.pool.low s.pool.reserveRefusals s.pool.emptyRefusals s.pool.lowWater x.subs
    ((s.notice q).causesWith CauseRecord.pending) ((s.notice q).causesWith CauseRecord.enabled) ((s.notice q).slot.map Prod.fst)

/-- A template as a CHANNEL snapshot shows it (R148). -/
def viewTemplate (s : State) (t : Template) : TemplateView :=
  let f := s.frameOf t.buf
  { length := f.length, dst := frameDst f, type := frameType f, sched := t.sched }

/-- The CHANNEL snapshot (R148). -/
def channelSnapshot (c : ChanId) (s : State) : Snapshot :=
  let x := s.chan c
  .channel (s.work.owner.get c) (s.work.trigger.get c) x (x.cur.map (viewTemplate s)) (x.nxt.map (viewTemplate s))

/-- The SETTING snapshot (R167). -/
def settingSnapshot (item : Item) (s : State) : Snapshot :=
  .setting (s.work.valueOf item) s.settings.status s.settings.bad (standingFor s item)

/-- The INPUTS snapshot (R154), with the four lines in rising number, IN0 first, and each line's naming channels in rising number (DESIGN CHOICE, log
entry 29). -/
def inputsSnapshot (s : State) : Snapshot :=
  .inputs ((List.finRange Config.nInputs).map (fun n => { line := s.input n, filter := s.work.filter.get n, channels := namingChannels n s }))

/-- The snapshot that a QUERY asks for (R175): `none` for an unknown kind (BAD_FORM, R168), `some none` for a refused argument. An argument
of one byte stands at offset 21; an item code stands there and its index at 22. -/
def querySnapshot (kind x y : Byte) (s : State) : Option (Option Snapshot) :=
  match kind.toNat with
  | 1 =>
    let w := be16 x y
    some (if validOrigin (keyOrigin w) = false then none
      else (keyClass w).map (fun cls => streamSnapshot { origin := keyOrigin w, cls := cls } s))
  | 2 => some (if x = 0#8 then some (lineSnapshot .a s) else if x = 1#8 then some (lineSnapshot .b s) else none)
  | 3 => some ((portOf x.toNat).map (fun q => portSnapshot q s))
  | 4 => some (if h : x.toNat < Config.nChannels then some (channelSnapshot ⟨x.toNat, h⟩ s) else none)
  | 5 => some ((itemOf x.toNat y.toNat).map (fun i => settingSnapshot i s))
  | 6 => some (some (.proposals s.settings.proposals s.settings.fig))
  | 7 => some (some (.clock s.clock s.startEnd))
  | 8 => some (some (inputsSnapshot s))
  | _ => none

/-! ## ENABLE and ACK (R172, R174) -/

/-- ENABLE from a PRESENT port (R174): a set that names a code outside the twelve is refused, else the enable set is replaced. -/
def enableAt (p : Port) (w : Word16) (s : State) : Answer :=
  if w.toNat < 4096 then
    let s1 := modNotice p (fun n => { n with causes := n.causes.mapFinIdx (fun i r _ => { r with enabled := w.getLsbD i }) }) s
    { outcome := .done, body := .enable ((s1.notice p).causesWith CauseRecord.enabled), state := s1 }
  else { outcome := .badValue, body := .empty, state := s }

/-- The in-service slot emptied. -/
def emptySlot (p : Port) (s : State) : State := modNotice p (fun n => { n with slot := none }) s

/-- ACK from a PRESENT port (table of R172). -/
def ackAt (p : Port) (cause : Byte) (s : State) : RepOutcome × State :=
  if cause = 0#8 then (.done, emptySlot p s)
  else
    match Cause.ofCode cause.toNat with
    | none => (.badValue, s)
    | some c =>
      match (s.notice p).slot with
      | some (d, _) => if d = c then (.done, emptySlot p s) else (.state, s)
      | none => (.state, s)

/-! ## The form check (R168) -/

/-- A template that its length field and the frame's data form: at most 1482 bytes, and not past the end of the data (R168). -/
def templateOf (len : Word16) (data : List Byte) : Option (List Byte) :=
  if 1482 < len.toNat ∨ data.length < len.toNat then none else some (data.take len.toNat)

/-- The value of a PROPOSE by its length field: not past the end of the data, and of the encoding length where the code names an item
(R168). -/
def valueOf (item : Byte) (len : Word16) (data : List Byte) : Option (List Byte) :=
  if data.length < len.toNat then none
  else
    match valueLength item.toNat with
    | some n => if len.toNat = n then some (data.take len.toNat) else none
    | none => some (data.take len.toNat)

/-! ## What a command's REPLY carries when the command does not reach its block -/

/-- The body of a REPLY that refuses a command before its block (NOT_PRESENT, BAD_FORM): the results that the command's rule has every
REPLY carry (R127, R130, R159), and nothing else (R169). -/
def refusedBody (p : Port) (c : Command) (s : State) : ReplyBody :=
  match c with
  | .subscribe _ _ => .subscribe none (s.port p).subs.length
  | .unsubscribe _ => .unsubscribe none (s.port p).subs.length
  | .load chan .. | .start chan | .stop chan | .replace chan .. | .chain chan .. | .clear chan => chanBody chan none s
  | .propose .. => proposeBody none none none s
  | _ => .empty

/-! ## Commands taken (R104, R105, R109, R168) -/

/-- HELLO (R105): from an ABSENT port the list is cleared if fresh is set and the port becomes PRESENT; from a PRESENT port only the list
is cleared. -/
def helloAt (p : Port) (fresh : Bool) (s : State) : State :=
  let s1 := if fresh then clearList p s else s
  if (s.port p).present then s1 else becomePresent p .hello s1

/-- RESTART_PORT from a PRESENT port (R109). -/
def restartPortAt (p : Port) (s : State) : State := becomePresent p .restart (clearList p (becomeAbsent p .restart s))

/-- The reaction of an answered command. -/
def Answer.reaction (r : Answer) : Reaction := (some (r.outcome, r.body), r.state)

/-- A channel command whose template may be malformed (R168). -/
def templateCommand (p : Port) (c : Command) (chan : Byte) (len : Word16) (data : List Byte)
    (act : ChanId → List Byte → RepOutcome × Option Schedule × State) (s : State) : Reaction :=
  match templateOf len data with
  | some t => (chanCommand p chan (fun ch => act ch t) s).reaction
  | none => (some (.badForm, refusedBody p c s), s)

/-- A command from a PRESENT port whose window has restarted: the form check, then its block (R168). -/
def runCommand (p : Port) (c : Command) (s : State) : Reaction :=
  match c with
  | .hello fresh => (some (.done, .empty), helloAt p fresh s)
  | .keep => (some (.done, .empty), s)
  | .restartPort => (some (.done, .empty), restartPortAt p s)
  | .subscribe key hold => (subscribeAt p key hold s).reaction
  | .unsubscribe key => (unsubscribeAt p key s).reaction
  | .load chan tmin tmax n len data =>
    templateCommand p c chan len data (fun ch t => loadChan ch (clampSchedule tmin tmax n) t s) s
  | .start chan => (chanCommand p chan (fun ch => startChan ch s) s).reaction
  | .stop chan => (chanCommand p chan (fun ch => stopChan ch s) s).reaction
  | .replace chan len data => templateCommand p c chan len data (fun ch t => replaceChan ch t s) s
  | .chain chan tmin tmax n len data =>
    templateCommand p c chan len data (fun ch t => chainChan ch (clampSchedule tmin tmax n) t s) s
  | .clear chan => (chanCommand p chan (fun ch => clearChan ch s) s).reaction
  | .propose item index len data =>
    match valueOf item len data with
    | some v => proposeAt p item index v s
    | none => (some (.badForm, refusedBody p c s), s)
  | .withdraw item index => (some ((withdrawAt p item index s).1, .empty), (withdrawAt p item index s).2)
  | .enable causes => (enableAt p causes s).reaction
  | .ack cause => (some ((ackAt p cause s).1, .empty), (ackAt p cause s).2)
  | .query kind x y =>
    match querySnapshot kind x y s with
    | some (some snap) => (some (.done, .query snap), s)
    | some none => (some (.badValue, .empty), s)
    | none => (some (.badForm, .empty), s)
  | .unknown _ => (some (.badForm, .empty), s)

/-- A command from an ABSENT port: HELLO is taken, every other is refused NOT_PRESENT (R104). -/
def runAbsent (p : Port) (c : Command) (s : State) : Reaction :=
  match c with
  | .hello fresh => (some (.done, .empty), helloAt p fresh s)
  | _ => (some (.notPresent, refusedBody p c s), s)

/-- A control frame taken (R104): its source kept for notices (R178), the window of a PRESENT port restarted, the command run, and the REPLY
joined to the lane after every effect of the command (R169). -/
def takeCommand (p : Port) (src : Addr) (token : BitVec 32) (c : Command) (s : State) : State :=
  let s1 := modPort p (fun x => { x with lastSrc := src }) s
  let r := if (s.port p).present then runCommand p c (restartWindow p s1) else runAbsent p c s1
  match r.1 with
  | some (outcome, body) => joinReply p src token c.code outcome body r.2
  | none => r.2

/-- A control frame that completes at a port and is recognised (R103): counted, dropped and counted when the lane is full, else taken
(R104). -/
def controlFrame (p : Port) (src : Addr) (token : BitVec 32) (c : Command) (s : State) : State :=
  let s1 := modPortCtr p (fun k => { k with controlIn := satInc k.controlIn }) s
  if Config.lanePlaces ≤ (s1.port p).lane.length then
    modPortCtr p (fun k => { k with controlDropped := satInc k.controlDropped }) s1
  else takeCommand p src token c s1

/-- A command's control frame can complete at a port only while its link is up, and it is discarded uncounted during STARTING (R102). -/
def frameTaken (p : Port) (s : State) : Bool := (s.port p).linkUp && !s.starting

/-- The event of a command's control frame completing at a port (R102 to R104, R168, R169). -/
def commandEvent (p : Port) (src : Addr) (token : BitVec 32) (c : Command) (s : State) : Host.Outcome State Fault Refusal :=
  if frameTaken p s then event (controlFrame p src token c) s else .next s

/-- A frame that completes at a client port outside STARTING, judged in the order of R103. -/
def receiveClient (p : Port) (frame : List Byte) (s : State) : State :=
  let data := frameData frame
  if frame.length < 64 ∨ checkMatches frame = false then
    modPortCtr p (fun c => { c with badCheck := satInc c.badCheck }) s
  else if 1516 < frame.length then modPortCtr p (fun c => { c with tooLong := satInc c.tooLong }) s
  else if frameType data = s.work.controlType then
    controlFrame p (decodeControl data).1 (decodeControl data).2.1 (decodeControl data).2.2 s
  else if frameType data = s.work.tagType then modPortCtr p (fun c => { c with badType := satInc c.badType }) s
  else takeData p data s

end Sys2Proof.Machine
end

