-- ==== Sys2Proof/Machine/StreamEvents.lean ====
section
/-! DEFINITION. The expiries at a stream entry: line deadlines (R67), the local deadline (R73), the forget deadline (R36). An expiry that the
Bay Clock has not reached, or whose deadline has been removed or restarted, does not happen. -/

namespace Sys2Proof.Machine

open Sys2Proof

/-- A stored deadline, if there is one, has been reached. -/
def deadlineDue (now : Time) (d : Option Time) : Bool :=
  match d with
  | some t => isDue now t
  | none => false

/-- A line deadline of a watched LIVE entry has been reached (R65). -/
def lineDeadlineDue (i : EntryId) (l : Line) (s : State) : Bool :=
  (s.entry i).watched && decide ((s.entry i).state = .live) && deadlineDue s.clock ((s.entry i).lineDl.get l)

/-- LINE_DEADLINE_EXPIRY (R67). -/
def execLineDeadlineExpiry (i : EntryId) (l : Line) (s : State) : Host.Outcome State Fault Refusal :=
  if lineDeadlineDue i l s then event (silenceLine i l) s else .next s

/-- The local deadline of a pinned LIVE local entry has been reached (R73). -/
def localDeadlineDue (i : EntryId) (s : State) : Bool :=
  (s.entry i).pinned && (s.entry i).isLocal && decide ((s.entry i).state = .live) && deadlineDue s.clock (s.entry i).localDl

/-- LOCAL_DEADLINE_EXPIRY (R73). -/
def execLocalDeadlineExpiry (i : EntryId) (s : State) : Host.Outcome State Fault Refusal :=
  if localDeadlineDue i s then event (quietLocal i) s else .next s

/-- The forget deadline of an entry has been reached (R36). -/
def forgetDeadlineDue (i : EntryId) (s : State) : Bool := deadlineDue s.clock (s.entry i).forgetDl

/-- FORGET_DEADLINE_EXPIRY (R36). -/
def execForgetDeadlineExpiry (i : EntryId) (s : State) : Host.Outcome State Fault Refusal :=
  if forgetDeadlineDue i s then event (forgetEntry i) s else .next s

end Sys2Proof.Machine
end

