-- ==== Sys2Proof/Machine/ChannelCommands.lean ====
section
/-! DEFINITION. The channel commands (R130 to R135, R142, R143), the expiry of a send time (R139), and the events at an input line (R149, R150). -/

namespace Sys2Proof.Machine

open Sys2Proof

/-- LOAD (R132). -/
def execLoad (p : Port) (src : Addr) (token : BitVec 32) (chan : Byte) (tmin tmax n len : Word16) (data : List Byte) (s : State) :
    Host.Outcome State Fault Refusal :=
  commandEvent p src token (.load chan tmin tmax n len data) s

/-- START (R142). -/
def execStart (p : Port) (src : Addr) (token : BitVec 32) (chan : Byte) (s : State) : Host.Outcome State Fault Refusal :=
  commandEvent p src token (.start chan) s

/-- STOP (R143). -/
def execStop (p : Port) (src : Addr) (token : BitVec 32) (chan : Byte) (s : State) : Host.Outcome State Fault Refusal :=
  commandEvent p src token (.stop chan) s

/-- REPLACE (R133). -/
def execReplace (p : Port) (src : Addr) (token : BitVec 32) (chan : Byte) (len : Word16) (data : List Byte) (s : State) :
    Host.Outcome State Fault Refusal :=
  commandEvent p src token (.replace chan len data) s

/-- CHAIN (R134). -/
def execChain (p : Port) (src : Addr) (token : BitVec 32) (chan : Byte) (tmin tmax n len : Word16) (data : List Byte) (s : State) :
    Host.Outcome State Fault Refusal :=
  commandEvent p src token (.chain chan tmin tmax n len data) s

/-- CLEAR (R135). -/
def execClear (p : Port) (src : Addr) (token : BitVec 32) (chan : Byte) (s : State) : Host.Outcome State Fault Refusal :=
  commandEvent p src token (.clear chan) s

/-- SEND_TIME_EXPIRY (R139); a channel without a send time that has been reached has no expiry. -/
def execSendTimeExpiry (c : ChanId) (s : State) : Host.Outcome State Fault Refusal :=
  match (s.chan c).sendTime with
  | some t => if isDue s.clock t then event (sendTimeExpires c t) s else .next s
  | none => .next s

/-- RAW_LEVEL_CHANGE (R149): during STARTING the raw level alone is set (R151); a level that the contact has already is no change. -/
def execRawLevelChange (n : InputId) (level : Bool) (s : State) : Host.Outcome State Fault Refusal :=
  if level = (s.input n).raw then .next s
  else if s.starting then .next (modInput n (fun x => { x with raw := level }) s)
  else event (rawChange n level) s

/-- PENDING_CHANGE_EXPIRY (R150). -/
def execPendingChangeExpiry (n : InputId) (s : State) : Host.Outcome State Fault Refusal :=
  if deadlineDue s.clock (s.input n).change then event (filteredChange n) s else .next s

end Sys2Proof.Machine
end

