-- ==== Sys2Proof/Machine/LineEvents.lean ====
section
/-! DEFINITION. The commands at a line port: receptions, link events, the settle timer, transmission completions (chapter 1), with the
supervision of a link loss (R77). -/

namespace Sys2Proof.Machine

open Sys2Proof

/-- LINE_FRAME_COMPLETION (R2): a port whose link is not DOWN applies the receive checks; during STARTING the frame is discarded uncounted. -/
def execLineFrameCompletion (l : Line) (frame : List Byte) (s : State) : Host.Outcome State Fault Refusal :=
  if (s.line l).link ≠ .down ∧ s.starting = false then event (receiveLine l frame) s else .next s

/-- A link-up on a DOWN line (R10): SETTLING with its timer running, held during STARTING, or straight to UP. -/
def lineUp (l : Line) (s : State) : State :=
  if s.starting then modLine l (fun x => { x with link := .settling }) s else startSettle l s

/-- LINE_LINK_UP (R10); it cannot reach a port that is SETTLING or UP. -/
def execLineLinkUp (l : Line) (s : State) : Host.Outcome State Fault Refusal :=
  if (s.line l).link = .down then event (lineUp l) s else .next s

/-- The settle timer of a SETTLING port has run out (R10, R11). -/
def settleDue (l : Line) (s : State) : Bool :=
  match (s.line l).link, (s.line l).settleStart with
  | .settling, some t => isPast s.clock t s.work.settle
  | _, _ => false

/-- SETTLE_TIMER_EXPIRY (R11). -/
def execSettleTimerExpiry (l : Line) (s : State) : Host.Outcome State Fault Refusal :=
  if settleDue l s then event (modLine l (fun x => { x with link := .up, settleStart := none })) s else .next s

/-- A transmission under way on a line is cut off and counted as lost (R12). -/
def cutLineTx (l : Line) (s : State) : State :=
  match (s.line l).tx with
  | none => s
  | some t =>
    release t.buf
      (modLine l (fun x => { x with tx := none, sent := some ⟨.cutOff, t.wire⟩, ctr := { x.ctr with lost := satInc x.ctr.lost } }) s)

/-- Both queues of a line emptied, urgent first, each entry released and counted as flushed (R12). -/
def flushLine (l : Line) (s : State) : State :=
  let x := s.line l
  releaseAll ((x.urgent ++ x.routine).map LineEntry.buf)
    (modLine l (fun x => { x with
      urgent := [], routine := [], ctr := { x.ctr with flushed := satAdd x.ctr.flushed (x.urgent.length + x.routine.length) } }) s)

/-- A link loss on a line that is not DOWN (R12), with what the Supervision Unit does to every watched entry (R77). -/
def lineDown (l : Line) (s : State) : State :=
  let s1 := modLine l (fun x => { x with link := .down, settleStart := none }) s
  let s2 := modLineCtr l (fun c => { c with linkLosses := satInc c.linkLosses }) (flushLine l (cutLineTx l s1))
  forEntries (lossAt l) s2

/-- LINE_LINK_LOSS (R12); it cannot reach a port that is DOWN. -/
def execLineLinkLoss (l : Line) (s : State) : Host.Outcome State Fault Refusal :=
  if (s.line l).link ≠ .down then event (lineDown l) s else .next s

/-- A transmission of a line completes (R15): its reference released, counted by its queue, and the next one begun. -/
def lineSent (l : Line) (t : LineTx) (s : State) : State :=
  startLineTx l
    (release t.buf
      (modLine l (fun x => { x with
        tx := none, sent := some ⟨.completed, t.wire⟩,
        ctr := if t.urgent then { x.ctr with txUrgent := satInc x.ctr.txUrgent } else { x.ctr with txRoutine := satInc x.ctr.txRoutine } }) s))

/-- LINE_TRANSMISSION_COMPLETION (R15); an idle transmitter completes nothing. -/
def execLineTransmissionCompletion (l : Line) (s : State) : Host.Outcome State Fault Refusal :=
  match (s.line l).tx with
  | some t => event (lineSent l t) s
  | none => .next s

end Sys2Proof.Machine
end

