-- ==== Sys2Proof/Machine/PortCommands.lean ====
section
/-! DEFINITION. The commands that a client gives about its port and its subscriptions, each a control frame of its code completing at the port
(R104, R105, R109, R118, R122, R172, R174, R175). -/

namespace Sys2Proof.Machine

open Sys2Proof

/-- HELLO (R105). -/
def execHello (p : Port) (src : Addr) (token : BitVec 32) (fresh : Bool) (s : State) : Host.Outcome State Fault Refusal :=
  commandEvent p src token (.hello fresh) s

/-- KEEP (R104). -/
def execKeep (p : Port) (src : Addr) (token : BitVec 32) (s : State) : Host.Outcome State Fault Refusal :=
  commandEvent p src token .keep s

/-- RESTART_PORT (R109). -/
def execRestartPort (p : Port) (src : Addr) (token : BitVec 32) (s : State) : Host.Outcome State Fault Refusal :=
  commandEvent p src token .restartPort s

/-- SUBSCRIBE (R118). -/
def execSubscribe (p : Port) (src : Addr) (token : BitVec 32) (key : Word16) (hold : BitVec 32) (s : State) :
    Host.Outcome State Fault Refusal :=
  commandEvent p src token (.subscribe key hold) s

/-- UNSUBSCRIBE (R122). -/
def execUnsubscribe (p : Port) (src : Addr) (token : BitVec 32) (key : Word16) (s : State) : Host.Outcome State Fault Refusal :=
  commandEvent p src token (.unsubscribe key) s

/-- ENABLE (R174). -/
def execEnable (p : Port) (src : Addr) (token : BitVec 32) (causes : Word16) (s : State) : Host.Outcome State Fault Refusal :=
  commandEvent p src token (.enable causes) s

/-- ACK (R172). -/
def execAck (p : Port) (src : Addr) (token : BitVec 32) (cause : Byte) (s : State) : Host.Outcome State Fault Refusal :=
  commandEvent p src token (.ack cause) s

/-- QUERY (R175). -/
def execQuery (p : Port) (src : Addr) (token : BitVec 32) (kind arg1 arg2 : Byte) (s : State) : Host.Outcome State Fault Refusal :=
  commandEvent p src token (.query kind arg1 arg2) s

end Sys2Proof.Machine
end

