-- ==== Sys2Proof/Machine/PortEvents.lean ====
section
/-! DEFINITION. The events at a client port (chapters 5 and 6): link events, frame completions, transmission completions, and the expiry of the
attendance window. -/

namespace Sys2Proof.Machine

open Sys2Proof

/-- A link-up at a client port (R102): the link is UP, and the transmitter serves what waits. -/
def clientUp (p : Port) (s : State) : State := startClientTx p (modPort p (fun x => { x with linkUp := true }) s)

/-- CLIENT_LINK_UP (R102); a link that is up does not come up. -/
def execClientLinkUp (p : Port) (s : State) : Host.Outcome State Fault Refusal :=
  if (s.port p).linkUp then .next s else event (clientUp p) s

/-- A link loss at a client port (R108): a PRESENT port becomes ABSENT with the reason link; an ABSENT one loses its transmission and what its
queues hold. -/
def clientDown (p : Port) (s : State) : State :=
  let s1 := modPort p (fun x => { x with linkUp := false, ctr := { x.ctr with linkLosses := satInc x.ctr.linkLosses } }) s
  if (s.port p).present then becomeAbsent p .link s1 else flushPort p (cutClientTx p s1)

/-- CLIENT_LINK_LOSS (R108); a link that is DOWN is not lost. -/
def execClientLinkLoss (p : Port) (s : State) : Host.Outcome State Fault Refusal :=
  if (s.port p).linkUp then event (clientDown p) s else .next s

/-- CLIENT_FRAME_COMPLETION (R103); during STARTING the frame is discarded uncounted, and a port whose link is DOWN receives none (R102). -/
def execClientFrameCompletion (p : Port) (frame : List Byte) (s : State) : Host.Outcome State Fault Refusal :=
  if frameTaken p s then event (receiveClient p frame) s else .next s

/-- A client transmission counted by its queue (R99). -/
def PortCounters.sentCounted (c : PortCounters) : ClientQueue → PortCounters
  | .urgent => { c with txUrgent := satInc c.txUrgent }
  | .lane => { c with txLane := satInc c.txLane }
  | .routine => { c with txRoutine := satInc c.txRoutine }

/-- A client transmission completes (R99): its reference released, counted, and the next one begun. -/
def clientSent (p : Port) (t : ClientTx) (s : State) : State :=
  startClientTx p
    (releaseOpt t.buf
      (modPort p (fun x => { x with tx := none, sent := some ⟨.completed, t.wire⟩, ctr := x.ctr.sentCounted t.queue }) s))

/-- CLIENT_TRANSMISSION_COMPLETION (R99); an idle transmitter completes nothing. -/
def execClientTransmissionCompletion (p : Port) (s : State) : Host.Outcome State Fault Refusal :=
  match (s.port p).tx with
  | some t => event (clientSent p t) s
  | none => .next s

/-- The attendance window of a PRESENT port has ended (R106). -/
def windowDue (p : Port) (s : State) : Bool := (s.port p).present && deadlineDue s.clock (s.port p).window

/-- The window's end (R106): the lapse counted, and the port ABSENT with the reason attendance. -/
def lapseAttendance (p : Port) (s : State) : State :=
  becomeAbsent p .attendance (modPortCtr p (fun c => { c with lapses := satInc c.lapses }) s)

/-- ATTENDANCE_WINDOW_EXPIRY (R106). -/
def execAttendanceWindowExpiry (p : Port) (s : State) : Host.Outcome State Fault Refusal :=
  if windowDue p s then event (lapseAttendance p) s else .next s

end Sys2Proof.Machine
end

