-- ==== Sys2Proof/Machine/SharedCommands.lean ====
section
/-! DEFINITION. The commands about the shared settings: PROPOSE, WITHDRAW and the expiry of a proposal (R159 to R161). -/

namespace Sys2Proof.Machine

open Sys2Proof

/-- PROPOSE (R159). -/
def execPropose (p : Port) (src : Addr) (token : BitVec 32) (item index : Byte) (len : Word16) (data : List Byte) (s : State) :
    Host.Outcome State Fault Refusal :=
  commandEvent p src token (.propose item index len data) s

/-- WITHDRAW (R161). -/
def execWithdraw (p : Port) (src : Addr) (token : BitVec 32) (item index : Byte) (s : State) : Host.Outcome State Fault Refusal :=
  commandEvent p src token (.withdraw item index) s

/-- PROPOSAL_EXPIRY (R160): the proposal that stands for the item lapses once its window has ended. -/
def execProposalExpiry (item : Item) (s : State) : Host.Outcome State Fault Refusal :=
  match standingFor s item with
  | some q => if isDue s.clock q.expiry then event (lapse q) s else .next s
  | none => .next s

end Sys2Proof.Machine
end

