-- ==== Sys2Proof/Machine/StartUp.lean ====
section
/-! DEFINITION. The commands POWER_ON and IMAGE_READ_COMPLETION: start-up (R157, R166). -/

namespace Sys2Proof.Machine

open Sys2Proof

/-- POWER_ON (R166): every block at its power-on values, every link DOWN, STARTING, the raw input levels as they first stand. -/
def execPowerOn (raw : Vector Bool Config.nInputs) (s : State) : Host.Outcome State Fault Refusal :=
  .next (State.powerOn s.pending s.choices raw)

/-- IMAGE_READ_COMPLETION (R157). A read is under way during STARTING alone; at any other time no read completes. -/
def execImageReadCompletion (memory : Option (List Byte)) (s : State) : Host.Outcome State Fault Refusal :=
  if s.starting then event (imageRead memory) s else .next s

end Sys2Proof.Machine
end

