-- ==== Sys2Proof/Machine/Dispatch.lean ====
section
/-! DEFINITION. The meaning of every command of the block, one arm for each constructor of `Instr`. -/

namespace Sys2Proof.Machine

open Sys2Proof

def exec (i : Instr) (s : State) : Host.Outcome State Fault Refusal :=
  match i with
  | .powerOn raw => Sys2Proof.Machine.execPowerOn raw s
  | .imageReadCompletion memory => Sys2Proof.Machine.execImageReadCompletion memory s
  | .lineFrameCompletion l frame => Sys2Proof.Machine.execLineFrameCompletion l frame s
  | .lineLinkUp l => Sys2Proof.Machine.execLineLinkUp l s
  | .settleTimerExpiry l => Sys2Proof.Machine.execSettleTimerExpiry l s
  | .lineLinkLoss l => Sys2Proof.Machine.execLineLinkLoss l s
  | .lineTransmissionCompletion l => Sys2Proof.Machine.execLineTransmissionCompletion l s
  | .lineDeadlineExpiry e l => Sys2Proof.Machine.execLineDeadlineExpiry e l s
  | .localDeadlineExpiry e => Sys2Proof.Machine.execLocalDeadlineExpiry e s
  | .forgetDeadlineExpiry e => Sys2Proof.Machine.execForgetDeadlineExpiry e s
  | .clientLinkUp p => Sys2Proof.Machine.execClientLinkUp p s
  | .clientLinkLoss p => Sys2Proof.Machine.execClientLinkLoss p s
  | .clientFrameCompletion p frame => Sys2Proof.Machine.execClientFrameCompletion p frame s
  | .clientTransmissionCompletion p => Sys2Proof.Machine.execClientTransmissionCompletion p s
  | .attendanceWindowExpiry p => Sys2Proof.Machine.execAttendanceWindowExpiry p s
  | .hello p src token fresh => Sys2Proof.Machine.execHello p src token fresh s
  | .keep p src token => Sys2Proof.Machine.execKeep p src token s
  | .restartPort p src token => Sys2Proof.Machine.execRestartPort p src token s
  | .subscribe p src token key hold => Sys2Proof.Machine.execSubscribe p src token key hold s
  | .unsubscribe p src token key => Sys2Proof.Machine.execUnsubscribe p src token key s
  | .load p src token chan tmin tmax n len data => Sys2Proof.Machine.execLoad p src token chan tmin tmax n len data s
  | .start p src token chan => Sys2Proof.Machine.execStart p src token chan s
  | .stop p src token chan => Sys2Proof.Machine.execStop p src token chan s
  | .replace p src token chan len data => Sys2Proof.Machine.execReplace p src token chan len data s
  | .chain p src token chan tmin tmax n len data => Sys2Proof.Machine.execChain p src token chan tmin tmax n len data s
  | .clear p src token chan => Sys2Proof.Machine.execClear p src token chan s
  | .sendTimeExpiry c => Sys2Proof.Machine.execSendTimeExpiry c s
  | .rawLevelChange n level => Sys2Proof.Machine.execRawLevelChange n level s
  | .pendingChangeExpiry n => Sys2Proof.Machine.execPendingChangeExpiry n s
  | .propose p src token item index len data => Sys2Proof.Machine.execPropose p src token item index len data s
  | .proposalExpiry item => Sys2Proof.Machine.execProposalExpiry item s
  | .withdraw p src token item index => Sys2Proof.Machine.execWithdraw p src token item index s
  | .enable p src token causes => Sys2Proof.Machine.execEnable p src token causes s
  | .ack p src token cause => Sys2Proof.Machine.execAck p src token cause s
  | .query p src token kind arg1 arg2 => Sys2Proof.Machine.execQuery p src token kind arg1 arg2 s

end Sys2Proof.Machine
end

