-- ==== Sys2Proof/Machine/Clock.lean ====
section
/-! DEFINITION. The Bay Clock (R176): one microsecond, and the expiries that the new value makes due. -/

namespace Sys2Proof.Machine

open Sys2Proof

/-- The expiries due at one entry: its line deadlines, its local deadline, its forget deadline. -/
def dueAtEntry (s : State) (i : EntryId) : List Instr :=
  (if lineDeadlineDue i .a s then [.lineDeadlineExpiry i .a] else []) ++
  (if lineDeadlineDue i .b s then [.lineDeadlineExpiry i .b] else []) ++
  (if localDeadlineDue i s then [.localDeadlineExpiry i] else []) ++
  (if forgetDeadlineDue i s then [.forgetDeadlineExpiry i] else [])

/-- Every expiry that is due at the present Bay Clock value, block by block. -/
def dueCommands (s : State) : List Instr :=
  (allLines.filter (fun l => settleDue l s)).map .settleTimerExpiry ++
  (List.finRange Config.nEntries).flatMap (dueAtEntry s) ++
  (allPorts.filter (fun p => windowDue p s)).map .attendanceWindowExpiry ++
  ((List.finRange Config.nChannels).filter (fun c => deadlineDue s.clock (s.chan c).sendTime)).map .sendTimeExpiry ++
  ((List.finRange Config.nInputs).filter (fun n => deadlineDue s.clock (s.input n).change)).map .pendingChangeExpiry ++
  (s.settings.proposals.filter (fun q => isDue s.clock q.expiry)).map (fun q => .proposalExpiry q.setting.item)

/-- One microsecond with no command waiting: the Bay Clock counts (R176), and the expiries that are then due are waiting, in a free order,
for events at one Bay Clock value are not ordered against one another (log entries 1 and 3). -/
def tick (s : State) : State :=
  let s1 : State := { s with clock := s.clock + 1 }
  let due := dueCommands s1
  { noteChoice due s1 with pending := freeOrder s1.choices due }

end Sys2Proof.Machine
end

