-- ==== Sys2Proof/Safety.lean ====
section
/-! DEFINITION. What a safe run of the ZR-316 is, in the terms that the statements use: which parts of the state an event may change, how the REPLY
of a command joins the lane, and the properties that the manual asserts of every state of the part. -/

namespace Sys2Proof

open Sys2Proof.Machine

/-! ## Outcomes and frames -/

/-- A step that neither faults nor is refused. -/
def Runs (o : Host.Outcome State Fault Refusal) : Prop := ∃ t, o = .next t

/-- A client port without its queues, its lane and what its link carries. -/
def Machine.ClientPort.plain (x : ClientPort) : ClientPort :=
  { x with urgent := [], routine := [], lane := [], tx := none, sent := none }

/-- The parts of the state. `port p` is a client port without its queues, lane and transmitter, which are `queues p`; `image` is the image status with
the refused records; `starting` goes with the clock value at which STARTING last ended. -/
inductive Part
  | waiting | choices | clock | starting
  | line (l : Line)
  | entry (i : EntryId)
  | recency | tableCtr | sup | pool
  | port (p : Port)
  | queues (p : Port)
  | notice (p : Port)
  | chan (c : ChanId)
  | input (n : InputId)
  | work | image | proposals | figures
  deriving DecidableEq, Repr

/-- A part of the state is the same in two states. -/
def Part.Same (s t : State) : Part → Prop
  | .waiting => t.pending = s.pending
  | .choices => t.choices = s.choices
  | .clock => t.clock = s.clock
  | .starting => t.starting = s.starting ∧ t.startEnd = s.startEnd
  | .line l => t.line l = s.line l
  | .entry i => t.entry i = s.entry i
  | .recency => t.table.recency = s.table.recency
  | .tableCtr => t.table.ctr = s.table.ctr
  | .sup => t.sup = s.sup
  | .pool => t.pool = s.pool
  | .port p => (t.port p).plain = (s.port p).plain
  | .queues p => (t.port p).urgent = (s.port p).urgent ∧ (t.port p).routine = (s.port p).routine ∧ (t.port p).lane = (s.port p).lane ∧
      (t.port p).tx = (s.port p).tx ∧ (t.port p).sent = (s.port p).sent
  | .notice p => t.notice p = s.notice p
  | .chan c => t.chan c = s.chan c
  | .input n => t.input n = s.input n
  | .work => t.work = s.work
  | .image => t.settings.status = s.settings.status ∧ t.settings.bad = s.settings.bad
  | .proposals => t.settings.proposals = s.settings.proposals
  | .figures => t.settings.fig = s.settings.fig

/-- From `s` to `t` nothing changes outside the listed parts. -/
def OnlyChanges (parts : List Part) (s t : State) : Prop := ∀ q, q ∉ parts → q.Same s t

/-- The notice states of the three ports: where a cause raised at several ports may show. -/
def noticeParts : List Part := [.notice .cp1, .notice .cp2, .notice .cp3]

/-- The queues and transmitters of the three ports: where a delivery may show. -/
def queueParts : List Part := [.queues .cp1, .queues .cp2, .queues .cp3]

/-- A cause stands raised once more at a port of `t` than in `s`, with a subject, and the rest of the port's notice state is the same (R170). -/
def RaisedAt (c : Cause) (subj : Subject) (p : Port) (s t : State) : Prop :=
  (t.notice p).slot = (s.notice p).slot ∧
  (t.notice p).of c = { (s.notice p).of c with pending := true, count := satInc ((s.notice p).of c).count, subject := some subj } ∧
  ∀ d, d ≠ c → (t.notice p).of d = (s.notice p).of d

/-- A cause stands raised at exactly the ports that `who` names. -/
def RaisedExactly (c : Cause) (subj : Subject) (who : Port → Prop) (s t : State) : Prop :=
  ∀ p, (who p → RaisedAt c subj p s t) ∧ (¬ who p → t.notice p = s.notice p)

/-- Of the notice states, only the records of the listed causes may differ between `s` and `t`: every slot is the same (R170). -/
def OnlyCauses (cs : List Cause) (s t : State) : Prop :=
  ∀ p, (t.notice p).slot = (s.notice p).slot ∧ ∀ d, d ∉ cs → (t.notice p).of d = (s.notice p).of d

/-- Of one cause alone: it stands raised once more, with a subject, at exactly the ports that `who` names (R170). -/
def CauseRaised (c : Cause) (subj : Subject) (who : Port → Prop) (s t : State) : Prop :=
  ∀ p, (who p → (t.notice p).of c = { (s.notice p).of c with
      pending := true, count := satInc ((s.notice p).of c).count, subject := some subj }) ∧
    (¬ who p → (t.notice p).of c = (s.notice p).of c)

/-- A cause's record after occurrences in turn, given by their subjects: pending if there was one, counted for each, the last subject kept (R170). -/
def Machine.CauseRecord.after (r : CauseRecord) : List Subject → CauseRecord
  | [] => r
  | x :: xs => CauseRecord.after { r with pending := true, count := satInc r.count, subject := some x } xs

/-! ## Kinds of change -/

/-- What a take or a release can change: the pool, and POOL at the ports. -/
def poolParts : List Part := .pool :: noticeParts

/-- What an operation at one client port's queues can change. -/
def portParts (p : Port) : List Part := .port p :: .queues p :: poolParts

/-- Every entry. -/
def entryParts : List Part := (List.finRange Config.nEntries).map .entry

/-- The Stream Table. -/
def tableParts : List Part := .recency :: .tableCtr :: entryParts

/-- What supervision of one entry can change. -/
def watchParts (i : EntryId) : List Part := .entry i :: .sup :: noticeParts

/-- What an operation on streams can change. -/
def streamParts : List Part := .sup :: tableParts ++ noticeParts

/-- What a delivery to client ports can change. -/
def deliveryParts : List Part := [.port .cp1, .port .cp2, .port .cp3] ++ queueParts ++ poolParts

/-- What an originated frame can change. -/
def sendParts : List Part := [.line .a, .line .b] ++ streamParts ++ deliveryParts

/-- Every channel. -/
def chanParts : List Part := (List.finRange Config.nChannels).map .chan

/-- What a send of some channel can change. -/
def burstParts : List Part := chanParts ++ sendParts

/-- What a reception on a line can change. -/
def receptionParts (l : Line) : List Part := .line l :: streamParts ++ deliveryParts

/-- What a send of channel `c` can change. -/
def chanSendParts (c : ChanId) : List Part := .chan c :: sendParts

/-- What a filtered change of line `n` can change. -/
def inputParts (n : InputId) : List Part := .input n :: .choices :: burstParts

/-- What a port's change to ABSENT can change. -/
def absentParts (p : Port) : List Part := .proposals :: .choices :: chanParts ++ portParts p

/-- What a change of a port's subscription list can change. -/
def listParts (p : Port) : List Part := .port p :: streamParts

/-! ## Client commands -/

/-- A control frame that completes at the port now is taken: the link is up, the part is not STARTING, and the lane has room (R102, R104). -/
def LaneOpen (p : Port) (s : State) : Prop :=
  (s.port p).linkUp = true ∧ s.starting = false ∧ (s.port p).lane.length < Config.lanePlaces

/-- A PRESENT port whose control frame is taken. -/
def Commands (p : Port) (s : State) : Prop := LaneOpen p s ∧ (s.port p).present = true

/-- The port once the control frame of a PRESENT port has been taken: counted, its source kept, its window restarted (R103, R104, R178). -/
def attended (p : Port) (src : Addr) (s : State) : ClientPort :=
  { s.port p with
    window := windowEnd p s, lastSrc := src,
    ctr := { (s.port p).ctr with controlIn := satInc (s.port p).ctr.controlIn } }

/-- The port once a control frame has been taken from it while ABSENT: counted, its source kept (R103, R104, R178). -/
def noted (p : Port) (src : Addr) (s : State) : ClientPort :=
  { s.port p with lastSrc := src, ctr := { (s.port p).ctr with controlIn := satInc (s.port p).ctr.controlIn } }

/-- The port once a control frame has been dropped for its full lane: counted as such (R104). -/
def dropped (p : Port) (s : State) : ClientPort :=
  { s.port p with ctr := { (s.port p).ctr with
      controlIn := satInc (s.port p).ctr.controlIn, controlDropped := satInc (s.port p).ctr.controlDropped } }

/-- A key word of a command names a key, whatever its line and spare bits are (R177): an origin of 1 to 4000 and a class. -/
def NamesKey (w : Word16) (k : Key) : Prop :=
  keyOrigin w = k.origin ∧ 1 ≤ k.origin.toNat ∧ k.origin.toNat ≤ 4000 ∧ keyClass w = some k.cls

/-- The REPLY to a command, with the address and the CONTROL_TYPE that are in force in `u` (R169). -/
def replyFrame (p : Port) (src : Addr) (token : BitVec 32) (code : Byte) (outcome : RepOutcome) (body : ReplyBody) (u : State) : LaneFrame :=
  { dst := src, src := u.work.address.get p, type := u.work.controlType, content := .reply token code outcome body }

/-- A frame joins the lane of port `x`, which becomes `y`: at the tail while a transmission is under way, and on to the wire at once where the
transmitter is idle with nothing before it (R97, R99). An idle transmitter with a frame waiting is excluded by `ClientLinksBusy`. -/
def Joined (f : LaneFrame) (x y : ClientPort) : Prop :=
  (x.tx.isSome = true → y = { x with lane := x.lane ++ [f] }) ∧
  (x.tx = none → x.urgent = [] → x.lane = [] → y = { x with tx := some ⟨.lane, none, withCheck f.data⟩ })

/-- A command of a PRESENT port is answered, and of that port nothing else changes than its attendance: see `attended`. -/
def Answered (p : Port) (src : Addr) (token : BitVec 32) (code : Byte) (outcome : RepOutcome) (body : ReplyBody) (s u : State) : Prop :=
  Joined (replyFrame p src token code outcome body u) (attended p src s) (u.port p)

/-- The row of the table that a control frame's command is, from port `p`; an unlisted code is none (R178). -/
def asInstr (p : Port) (src : Addr) (token : BitVec 32) : Command → Option Instr
  | .hello fresh => some (.hello p src token fresh)
  | .keep => some (.keep p src token)
  | .restartPort => some (.restartPort p src token)
  | .subscribe key hold => some (.subscribe p src token key hold)
  | .unsubscribe key => some (.unsubscribe p src token key)
  | .load chan tmin tmax n len data => some (.load p src token chan tmin tmax n len data)
  | .start chan => some (.start p src token chan)
  | .stop chan => some (.stop p src token chan)
  | .replace chan len data => some (.replace p src token chan len data)
  | .chain chan tmin tmax n len data => some (.chain p src token chan tmin tmax n len data)
  | .clear chan => some (.clear p src token chan)
  | .propose item index len data => some (.propose p src token item index len data)
  | .withdraw item index => some (.withdraw p src token item index)
  | .enable causes => some (.enable p src token causes)
  | .ack cause => some (.ack p src token cause)
  | .query kind arg1 arg2 => some (.query p src token kind arg1 arg2)
  | .unknown _ => none

/-- The channel number that a channel command names (section 8.2). -/
def chanNumber : Command → Option Byte
  | .load chan .. | .start chan | .stop chan | .replace chan .. | .chain chan .. | .clear chan => some chan
  | _ => none

/-- The template of a LOAD, REPLACE or CHAIN: `len` bytes of the data, at most 1482 and not past its end (R168). -/
def TemplateIs (template : List Byte) (len : Word16) (data : List Byte) : Prop :=
  len.toNat ≤ 1482 ∧ len.toNat ≤ data.length ∧ template = data.take len.toNat

/-- A channel command's REPLY body: the channel as it stands, and the schedule that a template command stored (R130). -/
def chanReply (c : ChanId) (sched : Option Schedule) (x : Channel) : ReplyBody :=
  .channel (BitVec.ofNat 8 c.val) (some { state := x.state, finished := x.finished, failed := x.failed, sched := sched })

/-! ## Frames from a line (R3, R4, R177) -/

/-- A line port takes completed frames: its link is not DOWN and the part is not STARTING (R2). -/
def Listens (l : Line) (s : State) : Prop := (s.line l).link ≠ .down ∧ s.starting = false

/-- A completed line frame that passes R3 and carries a well-formed tag of key `k`, line field `m` and sequence `q` (R4, R177). -/
def Tagged (tagType : Word16) (k : Key) (m : Line) (q : Seq) (frame : List Byte) : Prop :=
  70 ≤ frame.length ∧ frame.length ≤ 1522 ∧ checkMatches frame = true ∧ frameType (frameData frame) = tagType ∧
  1 ≤ k.origin.toNat ∧ k.origin.toNat ≤ 4000 ∧ keyOrigin (half (frameData frame) 14) = k.origin ∧
  keyClass (half (frameData frame) 14) = some k.cls ∧ keyLine (half (frameData frame) 14) = m ∧ half (frameData frame) 16 = q

/-- A completed line frame that passes R3 and whose type is not TAG_TYPE (R3). -/
def Untagged (tagType : Word16) (frame : List Byte) : Prop :=
  64 ≤ frame.length ∧ frame.length ≤ 1522 ∧ checkMatches frame = true ∧ frameType (frameData frame) ≠ tagType

/-! ## Sequence records (R45) -/

/-- A sequence is a member of the window. -/
def InWindow (r : SeqRecord) (x : Seq) : Prop := backDist r.high x ∈ r.window

/-- The pair after an accept: a line arrival sets it, a local one leaves it (R57). -/
def PairAfter (e : Entry) (x : Arrival) : Option PendingPair :=
  match x.line with
  | some l => some { seq := x.seq, line := l, time := x.time }
  | none => e.pair

/-- The window holds H, reaches at most 63 back, and lists each member once in rising order (R45). -/
def WindowSound (r : SeqRecord) : Prop :=
  r.window.head? = some 0 ∧ r.window.Pairwise (· < ·) ∧ ∀ b ∈ r.window, b ≤ Config.windowReach

/-! ## Properties of every state of the part -/

/-- Every line queue holds at most its full number of entries (R14). -/
def LineQueuesFit (s : State) : Prop :=
  ∀ l, (s.line l).urgent.length ≤ Config.urgentPlaces ∧ (s.line l).routine.length ≤ Config.routinePlaces

/-- Every client queue and every reply lane holds at most its full number (R95, R97). -/
def ClientQueuesFit (s : State) : Prop :=
  ∀ p, (s.port p).urgent.length ≤ Config.urgentPlaces ∧ (s.port p).routine.length ≤ Config.routinePlaces ∧
    (s.port p).lane.length ≤ Config.lanePlaces

/-- A line that is DOWN sends nothing, and a transmitter of a line that is idle has nothing waiting (R12, R13, R15). -/
def LineLinksBusy (s : State) : Prop :=
  ∀ l, ((s.line l).link = .down → (s.line l).tx = none) ∧
    ((s.line l).tx = none → (s.line l).urgent = [] ∧ (s.line l).routine = [])

/-- A client transmitter that is idle while its link is up has nothing waiting (R99). -/
def ClientLinksBusy (s : State) : Prop :=
  ∀ p, (s.port p).linkUp = true → (s.port p).tx = none →
    (s.port p).urgent = [] ∧ (s.port p).lane = [] ∧ (s.port p).routine = []

/-- A PRESENT port has its link up (section 6.1), and an ABSENT port holds no notice in service and runs no attendance window (R107, R173). -/
def AttendanceSound (s : State) : Prop :=
  ∀ p, ((s.port p).present = true → (s.port p).linkUp = true) ∧
    ((s.port p).present = false → (s.notice p).slot = none ∧ (s.port p).window = none)

/-- The free count is the number of buffers to which no reference is held (R83), the pool state fits it: LOW below 65, AMPLE above 32 (R87), and the
subject of every POOL that a port holds has its free count (R87). -/
def PoolSound (s : State) : Prop :=
  s.pool.free = ((List.finRange Config.nBuffers).filter (fun b => decide ((s.pool.bufs.get b).count = 0))).length ∧
  (s.pool.low = true → s.pool.free ≤ 64) ∧ (s.pool.low = false → 33 ≤ s.pool.free) ∧
  ∀ p low, (s.notice p).poolSubject ≠ some (.pool low none)

/-- 1 for an equal pair, else 0. -/
def same {α : Type} [DecidableEq α] (x y : α) : Nat := if x = y then 1 else 0

/-- The references to buffer `b`: by entries of line and client queues, by transmissions, and by template slots (R83, R86). A reception's ends within
its own step. -/
def references (b : BufId) (s : State) : Nat :=
  (allLines.map (fun l => ((s.line l).urgent ++ (s.line l).routine).countP (fun e => decide (e.buf = b)) +
    same ((s.line l).tx.map LineTx.buf) (some b))).sum +
  (allPorts.map (fun p => ((s.port p).urgent ++ (s.port p).routine).count b + same ((s.port p).tx.bind ClientTx.buf) (some b))).sum +
  ((List.finRange Config.nChannels).map (fun c =>
    same ((s.chan c).cur.map Template.buf) (some b) + same ((s.chan c).nxt.map Template.buf) (some b))).sum

/-- Each buffer's count is the number of references to it (R83). -/
def BuffersHeld (s : State) : Prop := ∀ b, (s.pool.bufs.get b).count = references b s

/-- One line SILENT and the other HEARD: the stream is single (section 4.2). -/
def SingleOn (h : PerLine Hearing) : Prop := ∃ l, h.get l = .silent ∧ h.get (otherLine l) = .heard

/-- One line SILENT and the other not HEARD: hearings that a watched entry holds only while QUIET (section 4.2). -/
def LostOn (h : PerLine Hearing) : Prop := ∃ l, h.get l = .silent ∧ h.get (otherLine l) ≠ .heard

/-- The fields of an entry are present by its state and marks as the table of R20 gives, its key and stale run are in range, its window is as R45
says, and its hearings are such as its state allows (section 4.2, R65). -/
def EntrySound (e : Entry) : Prop :=
  (e.state = .vacant → e = Entry.vacant) ∧
  (e.state ≠ .vacant → e.staleRun ≤ 7 ∧ ∃ k, e.key = some k ∧ 1 ≤ k.origin.toNat ∧ k.origin.toNat ≤ 4000) ∧
  (e.state = .opened ∨ e.state = .quiet → e.pinned = true) ∧
  (e.state = .opened → e.record = none ∧ e.lastArr = ⟨none, none⟩ ∧ e.lastAny = none ∧ ∀ h, e.hearing = some h → h = ⟨.unheard, .unheard⟩) ∧
  (e.state = .live ∨ e.state = .quiet → e.lastAny.isSome = true ∧ ∃ r, e.record = some r ∧ WindowSound r) ∧
  (e.sup.isSome = true ↔ e.pinned = true) ∧
  (e.hearing.isSome = true ↔ e.watched = true) ∧
  (e.state = .live → ∀ h, e.hearing = some h → ¬ LostOn h ∧
    ∀ l, ((e.lineDl.get l).isSome = true ↔ h.get l ≠ .silent) ∧ (h.get l = .heard → (e.lastArr.get l).isSome = true)) ∧
  (e.state = .quiet → ∀ h, e.hearing = some h → LostOn h) ∧
  (e.state ≠ .live ∨ e.watched = false → e.lineDl = ⟨none, none⟩) ∧
  (e.localDl.isSome = true ↔ e.state = .live ∧ e.pinned = true ∧ e.isLocal = true) ∧
  (e.forgetDl.isSome = true ↔ e.state = .live ∧ e.pinned = false)

/-- The Stream Table is sound: every entry is, no key is held twice (R21), an entry is marked local exactly when its origin is that of a client port
(R24, R25), and the recency list holds exactly the entries that are LIVE without a subscriber, each once (R29). -/
def TableSound (s : State) : Prop :=
  (∀ i, EntrySound (s.entry i)) ∧
  (∀ i j k, (s.entry i).key = some k → (s.entry j).key = some k → i = j) ∧
  (∀ i k, (s.entry i).key = some k → ((s.entry i).isLocal = true ↔ ∃ p, s.work.origin.get p = k.origin)) ∧
  s.table.recency.Nodup ∧
  ∀ i, i ∈ s.table.recency ↔ ((s.entry i).state = .live ∧ (s.entry i).pinned = false)

/-- The number of entries for which a test holds. -/
def numEntries (f : Entry → Bool) (s : State) : Nat := (List.finRange Config.nEntries).countP (fun i => f (s.entry i))

/-- An entry that counts in pinned-live: pinned, not local, LIVE (R75). -/
def Machine.Entry.inLive (e : Entry) : Bool := e.watched && decide (e.state = .live)

/-- An entry that counts in silent[l] (R75). -/
def Machine.Entry.inSilent (l : Line) (e : Entry) : Bool := e.inLive && e.hearing.any (fun h => decide (h.get l = .silent))

/-- The silent counts and the pinned-live count are the numbers of entries that R75 says. -/
def CountsAgree (s : State) : Prop :=
  (∀ l, s.sup.silent.get l = numEntries (Entry.inSilent l) s) ∧ s.sup.pinnedLive = numEntries Entry.inLive s

/-- While the part is STARTING every port is ABSENT, every channel EMPTY and every entry VACANT (R41, R102, R129). -/
def StartingIdle (s : State) : Prop :=
  s.starting = true →
    (∀ p, (s.port p).present = false) ∧ (∀ c, (s.chan c).state = .empty) ∧ ∀ i, (s.entry i).state = .vacant

/-- The proposal list (R159): at most eight, at most one for any one item, each of a PRESENT port. -/
def ProposalsSound (s : State) : Prop :=
  s.settings.proposals.length ≤ Config.proposalPlaces ∧
  (s.settings.proposals.map (fun q => q.setting.item)).Nodup ∧
  ∀ q ∈ s.settings.proposals, (s.port q.port).present = true

/-- The subscription lists (R117, R119): at most 96 members, no key twice, hold times within 2 to 65535 ms. -/
def ListsSound (s : State) : Prop :=
  ∀ p, (s.port p).subs.length ≤ Config.listPlaces ∧ ((s.port p).subs.map Subscription.key).Nodup ∧
    ∀ m ∈ (s.port p).subs, 2 ≤ m.hold ∧ m.hold ≤ 65535

/-- `T` is the least hold time for a key in the lists of a set of ports (R64). -/
def LeastHold (T : Nat) (k : Key) (ports : PerPort Bool) (s : State) : Prop :=
  (∃ p, ports.get p = true ∧ ∃ m ∈ (s.port p).subs, m.key = k ∧ m.hold = T) ∧
  ∀ p, ports.get p = true → ∀ m ∈ (s.port p).subs, m.key = k → T ≤ m.hold

/-- The subscription lists and the subscriber sets agree (R26): a port stands in the set of an entry exactly when its list holds the entry's key,
every key of a list has its entry, and the supervision time of a pinned entry is the least hold time of its subscribers (R64). -/
def ListsAgree (s : State) : Prop :=
  (∀ p i k, (s.entry i).key = some k → ((s.entry i).subs.get p = true ↔ ∃ m ∈ (s.port p).subs, m.key = k)) ∧
  (∀ p, ∀ m ∈ (s.port p).subs, ∃ i, (s.entry i).key = some m.key) ∧
  ∀ i k T, (s.entry i).key = some k → (s.entry i).sup = some T → LeastHold T k (s.entry i).subs s

/-- A schedule within the ranges of R129. -/
def ScheduleLegal (x : Schedule) : Prop := 1 ≤ x.tmin ∧ x.tmin ≤ 1000 ∧ 1 ≤ x.tmax ∧ x.tmax ≤ 60000 ∧ x.n ≤ 65535

/-- A channel record as R129 and the table of section 8.1 say. -/
def ChannelSound (x : Channel) : Prop :=
  (x.state = .empty ↔ x.cur = none) ∧
  (x.sendTime.isSome = true ↔ x.state = .sending ∨ x.state = .stopping) ∧
  (x.nxt.isSome = true → x.state = .armed ∨ x.state = .sending ∨ x.state = .stopping) ∧
  (∀ m, x.cur = some m → ScheduleLegal m.sched) ∧ (∀ m, x.nxt = some m → ScheduleLegal m.sched) ∧
  x.k ≤ 16 ∧ x.sendCount ≤ 65535

/-- Every channel record is as R129 says. -/
def ChannelsSound (s : State) : Prop := ∀ c, ChannelSound (s.chan c)

/-- A channel without an owner is EMPTY: a template comes from the owner alone, and a change of owner empties the channel (R130, R146). -/
def ChannelsOwned (s : State) : Prop := ∀ c, s.work.owner.get c = none → (s.chan c).state = .empty

/-- The working copy holds values within their ranges, and no two ports hold one non-zero origin (section 10.1, R156). -/
def WorkLegal (w : Settings) : Prop :=
  (∀ p, (w.origin.get p).toNat ≤ 4000) ∧
  (∀ p q, p ≠ q → w.origin.get p ≠ 0 → w.origin.get p ≠ w.origin.get q) ∧
  (∀ p n, w.attend.get p = some n → 10 ≤ n ∧ n ≤ 5000) ∧
  w.tripSet.length ≤ 4 ∧ w.sampledSet.length ≤ 4 ∧ w.settle ≤ 5000 ∧ 100 ≤ w.forget ∧ w.forget ≤ 60000 ∧ ∀ n, w.filter.get n ≤ 20

/-- The settings in force are legal. -/
def SettingsLegal (s : State) : Prop := WorkLegal s.work

/-! ## The pool (R83, R85 to R88) -/

/-- POOL follows the pool state at port `q`: where the state has changed between `s` and `u`, POOL is raised if the port was PRESENT in `s`, with the
new state and the free count of `u`; else the cause is the same (R87). -/
def PoolToldAt (q : Port) (s u : State) : Prop :=
  (u.pool.low ≠ s.pool.low → (s.port q).present = true →
    (u.notice q).of .pool = ((s.notice q).of .pool).after [.pool u.pool.low (some u.pool.free)]) ∧
  (u.pool.low = s.pool.low ∨ (s.port q).present = false → (u.notice q).of .pool = (s.notice q).of .pool)

/-- POOL follows the pool state at every port (R87). -/
def PoolTold (s u : State) : Prop := ∀ q, PoolToldAt q s u

/-- Buffer `b` is taken for a frame: the lowest-numbered free one, which holds the frame as long as a reference to it stands; the low-water mark
follows (R83, R86, R88). -/
def Takes (b : BufId) (frame : List Byte) (s u : State) : Prop :=
  (s.pool.bufs.get b).count = 0 ∧ (∀ a, a < b → (s.pool.bufs.get a).count ≠ 0) ∧
  ((u.pool.bufs.get b).count ≠ 0 → (u.pool.bufs.get b).frame = frame) ∧
  u.pool.lowWater = min s.pool.lowWater (s.pool.free - 1) ∧ u.pool.reserveRefusals = s.pool.reserveRefusals ∧
  u.pool.emptyRefusals = s.pool.emptyRefusals

/-- A reception has been refused a buffer, and of the pool nothing changes but the count of such refusals (R85, R88). -/
def RefusalCounted (s u : State) : Prop :=
  u.pool = (if s.pool.free = 0 then { s.pool with emptyRefusals := satInc s.pool.emptyRefusals }
            else { s.pool with reserveRefusals := satInc s.pool.reserveRefusals })

/-! ## Becoming ABSENT (R107) -/

/-- A channel whose burst ends with the attendance of its owner `p` (R145). -/
def EndsWith (p : Port) (s : State) (c : ChanId) : Prop :=
  s.work.owner.get c = some p ∧ s.work.trigger.get c = .command ∧ ((s.chan c).state = .sending ∨ (s.chan c).state = .stopping)

/-- The channels when their owner `p` becomes ABSENT (R145): a COMMAND burst ends READY and FAILED with OWNER_LOST, every other channel is unchanged. -/
def ChannelsEnd (p : Port) (s u : State) : Prop :=
  ∀ c, (EndsWith p s c → u.chan c = { s.chan c with state := .ready, sendTime := none, nxt := none, failed := some .ownerLost }) ∧
    (¬ EndsWith p s c → u.chan c = s.chan c)

/-- The record of a cause once its notice in service, if it has one, has returned to pending with the count that the notice carried (R173). -/
def Machine.NoticeUnit.back (n : NoticeUnit) (d : Cause) : CauseRecord :=
  match n.slot with
  | some (c, k) => if c = d then { n.of d with pending := true, count := satAdd (n.of d).count k.toNat } else n.of d
  | none => n.of d

/-- The notices of a port that becomes ABSENT (R173, R144, R145): the slot is emptied and its cause returned to pending, and CHANNEL is raised for
each burst that the change ends, with OWNER_LOST, in an order that the manual does not give. -/
def NoticeReturned (p : Port) (s u : State) : Prop :=
  (u.notice p).slot = none ∧ (∀ d, d ≠ .channel → (u.notice p).of d = (s.notice p).back d) ∧
  ∃ cs : List ChanId, cs.Nodup ∧ (∀ c, c ∈ cs ↔ EndsWith p s c) ∧
    (u.notice p).of .channel = ((s.notice p).back .channel).after (cs.map (fun c => .channel c (some .ownerLost)))

/-- The record of a port once it has been emptied at its change to ABSENT (R107, R96, R98, R100): no window runs, a transmission is cut off and counted
lost, the queues and the lane are empty and what they held is counted, and link, list, sequence counters, source address and all other counters are
kept (R101, R115). -/
def emptied (x : ClientPort) : ClientPort :=
  { x with
    present := false, window := none, urgent := [], routine := [], lane := [], tx := none,
    sent := (match x.tx with | some t => some ⟨.cutOff, t.wire⟩ | none => x.sent),
    ctr := { x.ctr with
      lost := if x.tx.isSome then satInc x.ctr.lost else x.ctr.lost,
      flushed := satAdd x.ctr.flushed (x.urgent.length + x.routine.length),
      laneFlushed := satAdd x.ctr.laneFlushed x.lane.length } }

/-- What comes of a PRESENT port's change to ABSENT (R107) outside its own record, which is `emptied`: see `NoticeReturned`, `ChannelsEnd`; its
proposals are removed, and PEER is raised at each other PRESENT port, where POOL may be raised besides by the buffers that are released, and nothing
else. -/
def WentAbsent (p : Port) (reason : PeerReason) (s u : State) : Prop :=
  NoticeReturned p s u ∧ ChannelsEnd p s u ∧
  u.settings.proposals = s.settings.proposals.filter (fun q => decide (q.port ≠ p)) ∧
  ∀ q, q ≠ p →
    ((s.port q).present = true → (u.notice q).of .peer = ((s.notice q).of .peer).after [.peer p false reason]) ∧
    ((s.port q).present = false → u.notice q = s.notice q) ∧
    (PoolSound s → PoolToldAt q s u) ∧ (u.notice q).slot = (s.notice q).slot ∧
    ∀ d, d ≠ .peer → d ≠ .pool → (u.notice q).of d = (s.notice q).of d

/-! ## Copies and deliveries -/

/-- A copy `e` of a frame placed for line `l`, whose port `x` becomes `y` (R13, R14, R15): not placed on a DOWN line, at the tail of its queue
while a transmission is under way, the head dropped from a full queue, and on to the wire at once at an idle transmitter with nothing waiting. An idle
transmitter with an entry waiting is excluded by `LineLinksBusy`. -/
def Placed (l : Line) (urgent : Bool) (e : LineEntry) (tagType : Word16) (frame : List Byte) (x y : LinePort) : Prop :=
  (x.link = .down → y = { x with ctr := { x.ctr with lineAbsent := satInc x.ctr.lineAbsent } }) ∧
  (x.link ≠ .down → x.tx.isSome = true → (x.queue urgent).length < places urgent → y = x.withQueue urgent (x.queue urgent ++ [e])) ∧
  (x.link ≠ .down → x.tx.isSome = true → places urgent ≤ (x.queue urgent).length →
    y = { x.withQueue urgent ((x.queue urgent).tail ++ [e]) with ctr := x.ctr.dropped urgent }) ∧
  (x.link ≠ .down → x.tx = none → x.urgent = [] → x.routine = [] →
    y = { x with tx := some ⟨e.buf, urgent, lineWire tagType e.tag l frame⟩ })

/-- A frame in buffer `b` given to a client port `x`, which becomes `y` (R94, R95, R99): coalesced with a waiting entry for the same buffer, at the
tail of its queue while a transmission is under way, the head dropped from a full queue, and on to the wire at once at an idle transmitter with
nothing waiting. -/
def Given (urgent : Bool) (b : BufId) (frame : List Byte) (x y : ClientPort) : Prop :=
  (b ∈ x.queue urgent → y = { x with ctr := { x.ctr with coalesced := satInc x.ctr.coalesced } }) ∧
  (b ∉ x.queue urgent → x.tx.isSome = true → (x.queue urgent).length < places urgent → y = x.withQueue urgent (x.queue urgent ++ [b])) ∧
  (b ∉ x.queue urgent → x.tx.isSome = true → places urgent ≤ (x.queue urgent).length →
    y = { x.withQueue urgent ((x.queue urgent).tail ++ [b]) with ctr := x.ctr.lossCounted urgent }) ∧
  (x.linkUp = true → x.tx = none → x.urgent = [] → x.lane = [] → x.routine = [] →
    y = { x with tx := some ⟨if urgent then .urgent else .routine, some b, withCheck frame⟩ })

/-- Port `q` is PRESENT and holds the unicast address `dst` (R91). -/
def Matches (s : State) (dst : Addr) (q : Port) : Prop := (s.port q).present = true ∧ s.work.address.get q = dst ∧ dst ≠ 0

/-- Port `q` receives a frame that is delivered by its destination address `dst` (R91): every PRESENT port a multicast, else those that match. -/
def TakesByAddress (s : State) (dst : Addr) (q : Port) : Prop :=
  (s.port q).present = true ∧ (isMulticast dst = true ∨ (s.work.address.get q = dst ∧ dst ≠ 0))

/-- QUEUE_LOSS at port `q`, which is given buffer `b` if `takes` holds: raised where a full queue drops its head for it, with the queue and both loss
counters as they stand after the drop, and else as before (R95). -/
def LossTold (takes : Prop) (urgent : Bool) (b : BufId) (q : Port) (s u : State) : Prop :=
  let x := s.port q
  let c := x.ctr.lossCounted urgent
  let drops : Prop := takes ∧ b ∉ x.queue urgent ∧ places urgent ≤ (x.queue urgent).length
  (drops → (u.notice q).of .queueLoss = ((s.notice q).of .queueLoss).after [.queueLoss (!urgent) c.urgentLoss c.routineLoss]) ∧
  (¬ drops → (u.notice q).of .queueLoss = (s.notice q).of .queueLoss)

/-- Port `q` is given the frame in buffer `b` if `takes` holds, and is unchanged if not; see `Given` and `LossTold`. -/
def GivenTo (takes : Prop) (urgent : Bool) (b : BufId) (frame : List Byte) (q : Port) (s u : State) : Prop :=
  (takes → Given urgent b frame (s.port q) (u.port q)) ∧ (¬ takes → u.port q = s.port q) ∧ LossTold takes urgent b q s u

/-- No client port is given a frame. -/
def NoneGiven (s u : State) : Prop := ∀ q, u.port q = s.port q ∧ (u.notice q).of .queueLoss = (s.notice q).of .queueLoss

/-- A GENERAL or untagged frame from line `l` is handed on (R91): given by its destination address, and counted unmatched where it is a unicast that no
PRESENT port takes. `c` are the line's counters as its reception alone leaves them. -/
def HandedOnFromLine (l : Line) (b : BufId) (frame : List Byte) (c : LineCounters) (s u : State) : Prop :=
  (isMulticast (frameDst frame) = true ∨ (∃ q, TakesByAddress s (frameDst frame) q) → u.line l = { s.line l with ctr := c }) ∧
  (isMulticast (frameDst frame) = false → (∀ q, ¬ TakesByAddress s (frameDst frame) q) →
    u.line l = { s.line l with ctr := { c with unmatched := satInc c.unmatched } }) ∧
  ∀ q, GivenTo (TakesByAddress s (frameDst frame) q) false b frame q s u

/-- No stream is touched: the entries, the recency list, and what is told of streams are as before. -/
def StreamsKept (s u : State) : Prop :=
  (∀ i, u.entry i = s.entry i) ∧ u.table.recency = s.table.recency ∧
  ∀ q, (u.notice q).of .streamBack = (s.notice q).of .streamBack ∧ (u.notice q).of .resync = (s.notice q).of .resync

/-- The local arrival of a frame that the part has tagged itself (R23, R55, R73): without an entry for its key nothing of the table changes; the entry of
its key is judged as by any arrival, and its last arrival any is stamped; a pinned entry has its local deadline restarted, with STREAM_BACK if it was
QUIET; an unpinned one goes to the tail of the recency list with a new forget deadline; a resync raises RESYNC (R52). No other entry changes. -/
def HeardLocally (k : Key) (seq : Seq) (s u : State) : Prop :=
  ((∀ i, (s.entry i).key ≠ some k) → StreamsKept s u) ∧
  ∀ i, (s.entry i).key = some k →
    let j := (s.entry i).judge { seq := seq, line := none, time := s.clock }
    (∀ m, m ≠ i → u.entry m = s.entry m) ∧
    (∀ T, (s.entry i).pinned = true → (s.entry i).sup = some T →
      u.entry i = { j.1 with lastAny := some s.clock, localDl := some (s.clock + ms T) } ∧ u.table.recency = s.table.recency) ∧
    ((s.entry i).pinned = false →
      u.entry i = { j.1 with lastAny := some s.clock, forgetDl := some (s.clock + ms s.work.forget) } ∧
      u.table.recency = s.table.recency.filter (fun m => decide (m ≠ i)) ++ [i]) ∧
    CauseRaised .streamBack (.stream (some k) none) (fun q => (s.entry i).state = .quiet ∧ (s.entry i).subs.get q = true) s u ∧
    CauseRaised .resync (.resync (some k) seq) (fun q => j.2 = .resynced ∧ (s.entry i).subs.get q = true) s u

/-- Port `q` receives a tagged frame that port `p` has originated (R89, R90): a TRIP or SAMPLED one as a PRESENT subscriber of its entry, if the local
arrival was accepted; a GENERAL one by its address, unless the local arrival was discarded. -/
def TakesOriginated (k : Key) (seq : Seq) (dst : Addr) (s : State) (q : Port) : Prop :=
  let accepted (i : EntryId) : Prop := ((s.entry i).judge { seq := seq, line := none, time := s.clock }).2 ≠ .discarded
  (k.cls ≠ .general → ∃ i, (s.entry i).key = some k ∧ accepted i ∧ (s.entry i).subs.get q = true ∧ (s.port q).present = true) ∧
  (k.cls = .general → TakesByAddress s dst q ∧ ∀ i, (s.entry i).key = some k → accepted i)

/-- A frame of port `p` sent with the class `cls`: a copy placed for each line with the next tag of the port, or with the untagged marker while
ORIGIN(p) is 0; with a tag the sequence counter is stepped and the local arrival made, and the other ports are served by its outcome; without one no
stream is touched, and they are served by address. The port itself is not given the frame, and neither the counts of supervision nor those of the
table follow (R90, R111, R112, R113, R138). -/
def SentOut (p : Port) (cls : Cls) (b : BufId) (frame : List Byte) (s u : State) : Prop :=
  let k : Key := ⟨s.work.origin.get p, cls⟩
  let seq := (s.port p).seqs.get cls
  (s.work.origin.get p ≠ 0 →
    (∀ l, Placed l (decide (cls = .trip)) ⟨b, some ⟨k.origin, cls, seq⟩⟩ s.work.tagType frame (s.line l) (u.line l)) ∧
    (u.port p).seqs = (s.port p).seqs.set cls (seq + 1) ∧
    (TableSound s → HeardLocally k seq s u ∧
      ∀ q, q ≠ p → GivenTo (TakesOriginated k seq (frameDst frame) s q) (decide (cls = .trip)) b frame q s u)) ∧
  (s.work.origin.get p = 0 →
    (∀ l, Placed l (decide (cls = .trip)) ⟨b, none⟩ s.work.tagType frame (s.line l) (u.line l)) ∧ (u.port p).seqs = (s.port p).seqs ∧
    StreamsKept s u ∧ ∀ q, q ≠ p → GivenTo (TakesByAddress s (frameDst frame) q) (decide (cls = .trip)) b frame q s u) ∧
  (u.notice p).of .queueLoss = (s.notice p).of .queueLoss ∧ OnlyCauses [.pool, .channel, .queueLoss, .streamBack, .resync] s u ∧
  u.sup = s.sup ∧ u.table.ctr = s.table.ctr

/-! ## Bursts of a channel (R136 to R140, R152, R153) -/

/-- The first send of a burst of channel `c`, whose owner is port `p` and whose record stood as `x` with the current template `t`, has been made: the
channel is SENDING with its send time a gap ahead; or, where N is 1 and the trigger no LEVEL, the burst ends with it, a COMMAND channel READY and
FINISHED, which is told its owner, an EDGE channel ARMED (R136, R137, R140, R144). -/
def FirstSendLeaves (c : ChanId) (p : Port) (x : Channel) (t : Template) (s u : State) : Prop :=
  let ends : Prop := t.sched.n = 1 ∧ ∀ n, s.work.trigger.get c ≠ .level n
  let sent : Channel := { x with sendCount := 1, sends := satInc x.sends }
  (¬ ends → u.chan c = { sent with
    state := .sending, k := if t.sched.tmin < t.sched.tmax then 1 else 0, sendTime := some (s.clock + ms (min t.sched.tmin t.sched.tmax)) }) ∧
  (ends → s.work.trigger.get c = .command → u.chan c = { sent with state := .ready, k := 0, sendTime := none, finished := true }) ∧
  (ends → s.work.trigger.get c ≠ .command → u.chan c = { sent with state := .armed, k := 0, sendTime := none, bursts := satInc x.bursts }) ∧
  CauseRaised .channel (.channel c none) (fun q => q = p ∧ ends ∧ s.work.trigger.get c = .command) s u

/-- A send of the current template `t` with the given frame ends the burst of channel `c` by its count, with the next template `y` held; `x` is the
record before that send. The burst restarts with `y` in the same step, after the state `m`, and makes its own first send; it has no next template
(R140). -/
def ChainsOn (c : ChanId) (p : Port) (x : Channel) (t y : Template) (frame : List Byte) (s u : State) : Prop :=
  ∃ m, OnlyChanges (chanSendParts c) s m ∧ (TableSound s → TableSound m) ∧ SentOut p .trip t.buf frame s m ∧
    (∀ q, (m.notice q).of .channel = (s.notice q).of .channel) ∧ SentOut p .trip y.buf (s.frameOf y.buf) m u ∧
    FirstSendLeaves c p { x with cur := some y, nxt := none, chained := satInc x.chained, sends := satInc x.sends } y m u

/-- A burst of channel `c` begins or restarts, whose record stands as `x` with the current template `t` in a buffer with the given frame: a send at
once, and after a send that ends the burst the next template, if there is one (R136, R140). -/
def BurstBegins (c : ChanId) (p : Port) (x : Channel) (t : Template) (frame : List Byte) (s u : State) : Prop :=
  let ends : Prop := t.sched.n = 1 ∧ ∀ n, s.work.trigger.get c ≠ .level n
  (¬ ends ∨ x.nxt = none → SentOut p .trip t.buf frame s u ∧ FirstSendLeaves c p x t s u) ∧
  ∀ y, ends → x.nxt = some y → BuffersHeld s → ChainsOn c p x t y frame s u

/-- The bursts of the listed channels begin, one after another. -/
def BurstsBegin : List ChanId → State → State → Prop
  | [], s, u => OnlyChanges [] s u
  | c :: cs, s, u => ∃ m, OnlyChanges (chanSendParts c) s m ∧ (TableSound s → TableSound m) ∧ (BuffersHeld s → BuffersHeld m) ∧
      (∀ p t, s.work.owner.get c = some p → (s.chan c).cur = some t → BurstBegins c p (s.chan c) t (s.frameOf t.buf) s m) ∧
      BurstsBegin cs m u

/-- A rising edge of line `n` begins or restarts a burst of channel `c`: at EDGE in ARMED and SENDING, at LEVEL in ARMED (R152, R153). -/
def EdgeBegins (n : InputId) (s : State) (c : ChanId) : Prop :=
  (s.work.trigger.get c = .edge n ∧ ((s.chan c).state = .armed ∨ (s.chan c).state = .sending)) ∨
  (s.work.trigger.get c = .level n ∧ (s.chan c).state = .armed)

/-- A rising edge of line `n`, which then stands as `x`, reaches the channels: the bursts that it begins begin one after another, in an order that the
manual does not give, and every other channel is unchanged (R150, R152, R153). -/
def RisingEdge (n : InputId) (x : InputLine) (s u : State) : Prop :=
  (∃ m cs, OnlyChanges [.input n, .choices] s m ∧ m.input n = x ∧ cs.Nodup ∧ (∀ c, c ∈ cs ↔ EdgeBegins n s c) ∧ BurstsBegin cs m u) ∧
  ∀ c, ¬ EdgeBegins n s c → u.chan c = s.chan c

/-! ## Supervision of one entry (R71, R72, R73, R76, R28) -/

/-- The hearing `x` and the deadline `d` that line `l` takes at `now` when a LIVE entry becomes watched with the supervision time `T`: the table of
R71. -/
def JudgedLine (e : Entry) (now : Time) (T : Nat) (l : Line) (x : Hearing) (d : Option Time) : Prop :=
  ∀ t, e.lastArr.get l = some t ∨ (e.lastArr.get l = none ∧ e.lastAny = some t) →
    ((now - t).toNat < T * 1000 → x = (if (e.lastArr.get l).isSome then .heard else .unheard) ∧ d = some (t + ms T)) ∧
    (T * 1000 ≤ (now - t).toNat → x = .silent ∧ d = none)

/-- The hearing `x` and the deadline `d` of line `l` once the supervision time of a watched LIVE entry with the hearings `h` has gone from `oldT` to
`newT`: a running deadline is recomputed from its start, and a past one leaves the line SILENT (R72). -/
def RetimedLine (e : Entry) (h : PerLine Hearing) (now : Time) (oldT newT : Nat) (l : Line) (x : Hearing) (d : Option Time) : Prop :=
  (h.get l = .silent → x = .silent ∧ d = none) ∧
  ∀ t, (h.get l = .heard ∧ e.lastArr.get l = some t) ∨ (h.get l = .unheard ∧ e.lineDl.get l = some (t + ms oldT)) →
    ((now - t).toNat < newT * 1000 → x = h.get l ∧ d = some (t + ms newT)) ∧
    (newT * 1000 ≤ (now - t).toNat → x = .silent ∧ d = none)

/-- The two lines' results taken together, once, at a LIVE entry that stands as `e` and becomes `f` (R71, R72): QUIET without a deadline, or LIVE with
them. -/
def TakesHearings (h : PerLine Hearing) (dl : PerLine (Option Time)) (e f : Entry) : Prop :=
  (LostOn h → f = { e with state := .quiet, hearing := some h, lineDl := ⟨none, none⟩ }) ∧
  (¬ LostOn h → f = { e with hearing := some h, lineDl := dl })

/-- A pinned LIVE local entry that stands as `e` is timed from its last arrival any by `T` and becomes `f`: a past deadline expires at once (R72, R73). -/
def TakesLocalTime (now : Time) (T : Nat) (e f : Entry) : Prop :=
  ∀ t, e.lastAny = some t →
    ((now - t).toNat < T * 1000 → f = { e with localDl := some (t + ms T) }) ∧
    (T * 1000 ≤ (now - t).toNat → f = { e with state := .quiet, localDl := none })

/-- The unpinned LIVE entry `e` becomes pinned by port `p` with the hold time `T`, and so `f` (R27, R71). -/
def PinnedAs (p : Port) (now : Time) (T : Nat) (e f : Entry) : Prop :=
  let g := { e with subs := e.subs.set p true, sup := some T, forgetDl := none }
  (e.isLocal = true → TakesLocalTime now T g f) ∧
  (e.isLocal = false → ∃ h dl, (∀ l, JudgedLine e now T l (h.get l) (dl.get l)) ∧ TakesHearings h dl g f)

/-- The pinned entry `e` comes to hold the supervision time `T`, and so becomes `f` with the subscribers that `f` has: stored where it is the old one
or the entry is not LIVE, else applied to the running deadlines (R64, R72, R123). -/
def RetimedAs (now : Time) (T : Nat) (e f : Entry) : Prop :=
  let g := { e with subs := f.subs, sup := some T }
  (e.sup = some T ∨ e.state ≠ .live → f = g) ∧
  ∀ oldT, e.state = .live → e.sup = some oldT → oldT ≠ T →
    (e.isLocal = true → TakesLocalTime now T g f) ∧
    ∀ h, e.isLocal = false → e.hearing = some h →
      ∃ h' dl, (∀ l, RetimedLine e h now oldT T l (h'.get l) (dl.get l)) ∧ TakesHearings h' dl g f

/-- The entry `e` loses its last subscriber and becomes `f` (R28, R35, R36): VACANT if it was OPEN or QUIET, or if the forget time since its last
arrival is past, else unpinned LIVE, without supervision, with a forget deadline. -/
def UnpinnedAs (now : Time) (forget : Nat) (e f : Entry) : Prop :=
  (e.state = .opened ∨ e.state = .quiet → f = Entry.vacant) ∧
  ∀ t, e.state = .live → e.lastAny = some t →
    ((now - t).toNat < forget * 1000 →
      f = { e with subs := ⟨false, false, false⟩, sup := none, hearing := none, lineDl := ⟨none, none⟩, localDl := none,
                   forgetDl := some (t + ms forget) }) ∧
    (forget * 1000 ≤ (now - t).toNat → f = Entry.vacant)

/-- Port `p` leaves the subscribers of entry `i` with the key `k` (R122, R124): with others left the entry stays pinned and T is recomputed over them,
else it is unpinned. -/
def Left (p : Port) (k : Key) (i : EntryId) (s u : State) : Prop :=
  ((∃ q, q ≠ p ∧ (s.entry i).subs.get q = true) →
    (u.entry i).subs = (s.entry i).subs.set p false ∧
    ∃ T, LeastHold T k (u.entry i).subs u ∧ RetimedAs s.clock T (s.entry i) (u.entry i)) ∧
  ((∀ q, q ≠ p → (s.entry i).subs.get q = false) → UnpinnedAs s.clock s.work.forget (s.entry i) (u.entry i))

/-- The counts follow entry `i` from `s` to `u`: what it added to them before is taken out, and what it adds now is put in (R76). -/
def CountsFollow (i : EntryId) (s u : State) : Prop :=
  (∀ l, u.sup.silent.get l = s.sup.silent.get l - ((s.entry i).inSilent l).toNat + ((u.entry i).inSilent l).toNat) ∧
  u.sup.pinnedLive = s.sup.pinnedLive - (s.entry i).inLive.toNat + (u.entry i).inLive.toNat

/-- A watched LIVE entry that is single (section 4.2). -/
def IsSingle (e : Entry) : Prop := e.inLive = true ∧ ∃ h, e.hearing = some h ∧ SingleOn h

/-- The change of entry `i` by a change of its subscribers or of T is told at its subscribers as they now are: STREAM_QUIET where it has gone QUIET,
STREAM_SINGLE where it has come to be single, each with its key and its hearings; else no notice changes (R71, R72, R74). -/
def StreamTold (i : EntryId) (s u : State) : Prop :=
  let quiet : Prop := (s.entry i).state = .live ∧ (u.entry i).state = .quiet
  let single : Prop := IsSingle (u.entry i) ∧ ¬ IsSingle (s.entry i)
  let told (c : Cause) : Prop := RaisedExactly c (.stream (u.entry i).key (u.entry i).hearing) (fun p => (u.entry i).subs.get p = true) s u
  (quiet → told .streamQuiet) ∧ (single → told .streamSingle) ∧ (¬ quiet → ¬ single → ∀ p, u.notice p = s.notice p)

/-- Entry `i`, whose last arrival any is `t`, joins the recency list `old` by age, and it becomes `new`: directly before the first member whose last
arrival any is later, else at the tail, and the others keep their places (R30). The last arrivals are those of `s`. -/
def PlacedByAge (i : EntryId) (t : Time) (s : State) (old new : List EntryId) : Prop :=
  ∃ xs ys, old = xs ++ ys ∧ new = xs ++ i :: ys ∧
    (∀ j ∈ xs, ∀ x, (s.entry j).lastAny = some x → (s.clock - t).toNat ≤ (s.clock - x).toNat) ∧
    ∀ j x, ys.head? = some j → (s.entry j).lastAny = some x → (s.clock - x).toNat < (s.clock - t).toNat

/-- The listed entries join the recency list by age, one after another (R30, R124). -/
def PlacedInTurn (s : State) : List EntryId → List EntryId → List EntryId → Prop
  | [], old, new => new = old
  | i :: is, old, new => ∃ t mid, (s.entry i).lastAny = some t ∧ PlacedByAge i t s old mid ∧ PlacedInTurn s is mid new

/-- A stream cause at port `q` for the listed entries, one after another, each with its key and its hearings as they stand in `u` (R74). -/
def ToldInTurn (c : Cause) (is : List EntryId) (q : Port) (s u : State) : Prop :=
  (u.notice q).of c = ((s.notice q).of c).after (is.map (fun i => .stream (u.entry i).key (u.entry i).hearing))

/-- What a step at many entries tells a port: STREAM_QUIET for each of the port's streams that has gone QUIET, STREAM_SINGLE for each that has come to
be single, each in an order of entries that `ordered` allows (R74). -/
def StreamsTold (ordered : List EntryId → Prop) (q : Port) (s u : State) : Prop :=
  (∃ is, ordered is ∧ (∀ i, i ∈ is ↔ (s.entry i).state = .live ∧ (u.entry i).state = .quiet ∧ (u.entry i).subs.get q = true) ∧
    ToldInTurn .streamQuiet is q s u) ∧
  ∃ is, ordered is ∧ (∀ i, i ∈ is ↔ IsSingle (u.entry i) ∧ ¬ IsSingle (s.entry i) ∧ (u.entry i).subs.get q = true) ∧ ToldInTurn .streamSingle is q s u

/-- Entries in increasing number (R74). -/
def InNumberOrder (is : List EntryId) : Prop := is.Pairwise (· < ·)

/-- Entries in the order in which the list of port `p` holds their keys (R124). -/
def InListOrder (p : Port) (s : State) (is : List EntryId) : Prop :=
  (is.map (fun i => (s.entry i).key)).Sublist ((s.port p).subs.map (fun m => some m.key))

/-- The list of port `p` has been cleared (R124): each entry that the port was a subscriber of it has left, and no other entry has changed. Those that
have become unpinned LIVE have joined the recency list by age in the order of the list, the others keep their places there, and each LIVE entry that
has become VACANT is counted as forgotten (R28, R30, R36, log entry 33). -/
def ListCleared (p : Port) (s u : State) : Prop :=
  (∀ i, ((s.entry i).subs.get p = true → ∀ k, (s.entry i).key = some k → Left p k i s u) ∧
    ((s.entry i).subs.get p = false → u.entry i = s.entry i)) ∧
  (∃ is, InListOrder p s is ∧ (∀ i, i ∈ is ↔ (s.entry i).pinned = true ∧ (u.entry i).state = .live ∧ (u.entry i).pinned = false) ∧
    PlacedInTurn s is s.table.recency u.table.recency) ∧
  u.table.ctr = { s.table.ctr with
    forgets := satAdd s.table.ctr.forgets
      ((List.finRange Config.nEntries).countP (fun i => decide ((s.entry i).state = .live ∧ (u.entry i).state = .vacant))) }

/-- The entry `e` gains the local mark and becomes `f` (R25): hearings and line deadlines go; a pinned LIVE one is timed from its last arrival any,
and goes QUIET if that deadline is past. -/
def GainsMark (now : Time) (e f : Entry) : Prop :=
  let g := { e with isLocal := true, hearing := none, lineDl := ⟨none, none⟩ }
  (∀ T, e.pinned = true → e.state = .live → e.sup = some T → TakesLocalTime now T g f) ∧
  (e.pinned = false ∨ e.state ≠ .live → f = g)

/-- The entry `e` loses the local mark and becomes `f` (R25, R71): the local deadline goes; a pinned one becomes watched, an OPEN one with both lines
UNHEARD, a QUIET one with both SILENT, a LIVE one by its stored times. -/
def LosesMark (now : Time) (e f : Entry) : Prop :=
  let g := { e with isLocal := false, localDl := none }
  (e.pinned = false → f = g) ∧
  (e.pinned = true → e.state = .opened → f = { g with hearing := some ⟨.unheard, .unheard⟩ }) ∧
  (e.pinned = true → e.state = .quiet → f = { g with hearing := some ⟨.silent, .silent⟩ }) ∧
  ∀ T, e.pinned = true → e.state = .live → e.sup = some T →
    ∃ h dl, (∀ l, JudgedLine e now T l (h.get l) (dl.get l)) ∧ TakesHearings h dl g f

/-! ## Settings as bytes (R156, R168, R178) -/

/-- The number of a client port (R178). -/
def portNumber : Port → Nat
  | .cp1 => 1
  | .cp2 => 2
  | .cp3 => 3

/-- An item code and an index name an item (R156, R178). -/
def NamesItem (code index : Byte) : Item → Prop
  | .origin p => code = 1 ∧ index.toNat = portNumber p
  | .address p => code = 2 ∧ index.toNat = portNumber p
  | .attend p => code = 3 ∧ index.toNat = portNumber p
  | .tagType => code = 4 ∧ index = 0
  | .controlType => code = 5 ∧ index = 0
  | .classMap => code = 6 ∧ index = 0
  | .settle => code = 7 ∧ index = 0
  | .forget => code = 8 ∧ index = 0
  | .owner c => code = 9 ∧ index.toNat = c.val
  | .trigger c => code = 10 ∧ index.toNat = c.val
  | .filter n => code = 11 ∧ index.toNat = n.val
  | .restart => code = 12 ∧ index = 0

/-- The encoding lengths of the items, from item code 1 to item code 12 (R178). -/
def encodingLengths : List Nat := [2, 6, 2, 2, 2, 18, 2, 2, 1, 1, 1, 0]

/-- A value has the encoding length of its item, where the code names one (R168). -/
def FitsItem (code : Byte) (length : Nat) : Prop := ∀ n, 1 ≤ code.toNat → encodingLengths[code.toNat - 1]? = some n → length = n

/-- The value of a PROPOSE: `len` bytes of the data, not past its end, and of the encoding length where the code names an item (R168). -/
def ValueIs (value : List Byte) (code : Byte) (len : Word16) (data : List Byte) : Prop :=
  len.toNat ≤ data.length ∧ value = data.take len.toNat ∧ FitsItem code len.toNat

/-- `set` lists the types of the first `n` slots from an offset of a CLASS_MAP value, each once, in rising order (R156, R178). -/
def SetOf (set : List Word16) (value : List Byte) (off n : Nat) : Prop :=
  set.Pairwise (fun x y => x.toNat < y.toNat) ∧ ∀ x, x ∈ set ↔ ∃ i, i < n ∧ half value (off + 2 * i) = x

/-- A value offered for the item of a setting is taken as that setting against the working copy `w`: the table of section 10.1 and R156, clamps
included. -/
def TakenAs (w : Settings) (value : List Byte) : Setting → Prop
  | .origin p v => v.toNat = beNat value ∧ v.toNat ≤ 4000 ∧ (v = 0 ∨ ∀ q, q ≠ p → w.origin.get q ≠ v)
  | .address _ v => v.toNat = beNat value
  | .attend _ v => v = (if beNat value = 65535 then none else if beNat value < 10 then some 10 else if 5000 < beNat value then some 5000
      else some (beNat value))
  | .tagType v => v.toNat = beNat value ∧ v ≠ w.controlType
  | .controlType v => v.toNat = beNat value ∧ v ≠ w.tagType
  | .classMap trip sampled => (byteAt value 0).toNat ≤ 4 ∧ (byteAt value 9).toNat ≤ 4 ∧
      SetOf trip value 1 (byteAt value 0).toNat ∧ SetOf sampled value 10 (byteAt value 9).toNat
  | .settle v => v = (if 5000 < beNat value then 5000 else beNat value)
  | .forget v => v = (if beNat value < 100 then 100 else if 60000 < beNat value then 60000 else beNat value)
  | .owner _ none => beNat value = 0
  | .owner _ (some p) => beNat value = portNumber p
  | .trigger _ .command => beNat value = 0
  | .trigger _ (.edge n) => beNat value = 16 + n.val
  | .trigger _ (.level n) => beNat value = 32 + n.val
  | .filter _ v => v = (if 20 < beNat value then 20 else beNat value)
  | .restart => True

/-- An ORIGIN in range that another port holds (R156). -/
def DuplicateOrigin (w : Settings) (value : List Byte) (item : Item) : Prop :=
  ∃ p, item = .origin p ∧ beNat value ≠ 0 ∧ beNat value ≤ 4000 ∧ ∃ q, q ≠ p ∧ (w.origin.get q).toNat = beNat value

/-- The proposal that stands for an item (R159). -/
def Stands (q : Proposal) (item : Item) (s : State) : Prop := s.settings.proposals.find? (fun r => decide (r.setting.item = item)) = some q

/-! ## The settings image (R157, R158) -/

/-- The count and the records of an image as they are stored, which its CRC covers (R157). -/
def imageBytes (rs : List ImageRecord) : List Byte :=
  bytes16 (BitVec.ofNat 16 rs.length) ++ rs.flatMap (fun x => [x.code, x.index] ++ bytes16 (BitVec.ofNat 16 x.value.length) ++ x.value)

/-- A memory holds an image of the records `rs` with the stored CRC `crc`, in full (R157). -/
def ImageHolds (m : List Byte) (rs : List ImageRecord) (crc : Word16) : Prop :=
  rs.length < 65536 ∧ (∀ x ∈ rs, x.value.length < 65536) ∧ ∃ after, m = imageBytes rs ++ bytes16 crc ++ after

/-- A record is applied, and the working copy goes from `w` to `v` (R158). -/
def RecordTaken (w : Settings) (x : ImageRecord) (v : Settings) : Prop :=
  ∃ y : Setting, NamesItem x.code x.index y.item ∧ FitsItem x.code x.value.length ∧ TakenAs w x.value y ∧ v = w.apply y

/-- A record is refused, and the working copy goes from `w` to `v`: the item that it names, if it names one, is at its default (R158, log entry 12). -/
def RecordRefused (w : Settings) (x : ImageRecord) (v : Settings) : Prop :=
  ((∀ item, ¬ NamesItem x.code x.index item) ∧ v = w) ∨
  ∃ item, NamesItem x.code x.index item ∧ (FitsItem x.code x.value.length → ∀ y : Setting, y.item = item → ¬ TakenAs w x.value y) ∧
    v = w.apply (Settings.default.valueOf item)

/-- The records of an image applied in stored order, from the working copy `w` to `v`, with the refused ones in `bad` (R158). -/
def RecordsApplied : Settings → List ImageRecord → Settings → List ImageRecord → Prop
  | w, [], v, bad => v = w ∧ bad = []
  | w, x :: xs, v, bad =>
    (∃ m, RecordTaken w x m ∧ RecordsApplied m xs v bad) ∨
    ∃ m rest, RecordRefused w x m ∧ bad = x :: rest ∧ RecordsApplied m xs v rest

/-! ## What is due (R11, R36, R67, R73, R106, R139, R150, R160) -/

/-- A stored time has been reached: it lies at most half a clock period behind the present one (the model's reading of R64 and R137, log entry 25). -/
def Reached (s : State) (d : Option Time) : Prop := ∃ t, d = some t ∧ (s.clock - t).toNat < 2147483648

/-- A command is an expiry that is due: its timer runs, and its time has been reached. -/
def Due (s : State) : Instr → Prop
  | .settleTimerExpiry l => (s.line l).link = .settling ∧ ∃ t, (s.line l).settleStart = some t ∧ s.work.settle * 1000 ≤ (s.clock - t).toNat
  | .lineDeadlineExpiry i l => (s.entry i).inLive = true ∧ Reached s ((s.entry i).lineDl.get l)
  | .localDeadlineExpiry i =>
    (s.entry i).state = .live ∧ (s.entry i).pinned = true ∧ (s.entry i).isLocal = true ∧ Reached s (s.entry i).localDl
  | .forgetDeadlineExpiry i => Reached s (s.entry i).forgetDl
  | .attendanceWindowExpiry p => (s.port p).present = true ∧ Reached s (s.port p).window
  | .sendTimeExpiry c => Reached s (s.chan c).sendTime
  | .pendingChangeExpiry n => Reached s (s.input n).change
  | .proposalExpiry item => ∃ q ∈ s.settings.proposals, q.setting.item = item ∧ Reached s (some q.expiry)
  | _ => False

end Sys2Proof
end

