-- ==== Sys2Proof/Certificates/Slice0/Obligations.lean ====
section
/-! DEFINITION. The statements about the model. A statement about a command gives its outcome as the end of an event: `presentAll (judgeVerdicts s u)` is the
state in which the event's own effects left `u`, then the verdicts were judged once (`VerdictsJudged`), then notices were presented (`NoticePresented`);
where no verdict can change, `presentAll u`. `OnlyChanges parts s u` is the frame: nothing outside the listed parts differs between `s` and `u`. -/

open Sys2Proof Sys2Proof.Machine

/-! ## The machine -/

/-- The command at the front of the queue is executed on the state with the queue's rest. -/
def Obligations.StepTakesFront : Prop :=
  ∀ (c : Instr) (rest : List Instr) (s : State), s.pending = c :: rest → step s = exec c { s with pending := rest }

/-- With no command waiting a step counts one microsecond, and exactly the expiries that are due at the new Bay Clock value are then waiting, each
once (R176; when each is due is `Due`, by R11, R36, R67, R73, R106, R137, R139, R150, R160, and that a stored time counts as reached at most half a
period behind the clock is the model's reading, log entry 25; that they queue up so, in a free order, is the model's choice, log entries 1 and 3). -/
def Obligations.IdleStepCounts : Prop :=
  ∀ s : State, s.pending = [] →
    ∃ t, step s = .next t ∧ t.clock = s.clock + 1 ∧ (∀ c, c ∈ t.pending ↔ Due { s with clock := s.clock + 1 } c) ∧
      (ProposalsSound s → t.pending.Nodup) ∧ OnlyChanges [.waiting, .choices, .clock] s t

/-- No command of the block faults or is refused, and none takes a waiting command (the queue is the model's own, log entry 1). -/
def Obligations.EveryCommandRuns : Prop :=
  ∀ (c : Instr) (s : State), ∃ t, exec c s = .next t ∧ t.pending = s.pending

/-- No command moves the Bay Clock, but for POWER_ON, and a PROPOSE of a PRESENT port, or the frame that carries it, while another port's proposal of
RESTART stands: these may return it to 0 and start STARTING (R176, R166). -/
def Obligations.ClockKept : Prop :=
  ∀ (c : Instr) (s t : State), exec c s = .next t →
    t.clock = s.clock ∨
      (t.clock = 0 ∧ t.starting = true ∧ ((∃ raw, c = .powerOn raw) ∨
        ∃ q ∈ s.settings.proposals, q.setting = .restart ∧ ∃ p, p ≠ q.port ∧ (s.port p).present = true ∧
          ((∃ src token item index len data, c = .propose p src token item index len data) ∨ ∃ frame, c = .clientFrameCompletion p frame)))

/-- A shared setting changes only at power-on, at the end of the image read, and at a PROPOSE of a PRESENT port, or the frame that carries it, while
the proposal of another port stands: then the one item of that proposal takes its value, or the whole working copy its defaults by a bay restart
(R155, R159, R162, R166). -/
def Obligations.SettingsNeedTwoPorts : Prop :=
  ∀ (c : Instr) (s t : State), exec c s = .next t → t.work ≠ s.work →
    (∃ raw, c = .powerOn raw) ∨ ((∃ m, c = .imageReadCompletion m) ∧ s.starting = true) ∨
    ∃ q ∈ s.settings.proposals, ∃ p, p ≠ q.port ∧ (s.port p).present = true ∧
      ((∃ src token item index len data, c = .propose p src token item index len data) ∨ ∃ frame, c = .clientFrameCompletion p frame) ∧
      (t.work = s.work.apply q.setting ∨ (q.setting = .restart ∧ t.work = Settings.default))

/-- An ABSENT port becomes PRESENT only at a HELLO of its own, or at the frame that carries one (R107). -/
def Obligations.PresentByHello : Prop :=
  ∀ (c : Instr) (s t : State) (p : Port), exec c s = .next t → (s.port p).present = false → (t.port p).present = true →
    (∃ src token fresh, c = .hello p src token fresh) ∨
    ∃ frame src token fresh, c = .clientFrameCompletion p frame ∧ decodeControl (frameData frame) = (src, token, .hello fresh)

/-- POWER_ON (R166, R18, R41, R81, R83, R102, R129, R151, R155, R159, R163, R170, R176): every link DOWN, the part STARTING, every block at its power-on
values, each contact at the level at which it first stands. The reset state is the one that POWER_ON leaves with every contact open (the open contacts are
the model's choice, log entry 7). -/
def Obligations.PowerOnValues : Prop :=
  (∀ (raw : Vector Bool Config.nInputs) (s : State), ∃ t, exec (.powerOn raw) s = .next t ∧ t.pending = s.pending ∧
    t.clock = 0 ∧ t.starting = true ∧
    (∀ l, (t.line l).link = .down ∧ (t.line l).settleStart = none ∧ (t.line l).urgent = [] ∧ (t.line l).routine = [] ∧ (t.line l).tx = none ∧
      (t.line l).ctr = LineCounters.zero) ∧
    (∀ i, t.entry i = Entry.vacant) ∧ t.table.recency = [] ∧ t.table.ctr = ⟨0, 0, 0, 0⟩ ∧ t.sup = ⟨⟨0, 0⟩, 0⟩ ∧
    (∀ b, (t.pool.bufs.get b).count = 0) ∧ t.pool.free = 448 ∧ t.pool.low = false ∧ t.pool.reserveRefusals = 0 ∧ t.pool.emptyRefusals = 0 ∧
    t.pool.lowWater = 448 ∧
    (∀ p, (t.port p).linkUp = false ∧ (t.port p).present = false ∧ (t.port p).window = none ∧ (t.port p).urgent = [] ∧ (t.port p).lane = [] ∧
      (t.port p).routine = [] ∧ (t.port p).tx = none ∧ (t.port p).ctr = PortCounters.zero ∧ (t.port p).seqs = ⟨0, 0, 0⟩ ∧ (t.port p).subs = [] ∧
      (t.port p).lastSrc = 0) ∧
    (∀ p, (t.notice p).slot = none ∧ ∀ c, (t.notice p).of c = { pending := false, count := 0, subject := none, enabled := true }) ∧
    (∀ c, t.chan c = { state := .empty, cur := none, nxt := none, k := 0, sendCount := 0, sendTime := none, finished := false, failed := none,
                       chained := 0, bursts := 0, sends := 0 }) ∧
    (∀ n, t.input n = { raw := raw.get n, filtered := false, change := none, rising := 0, falling := 0, cancelled := 0 }) ∧
    (∀ p, t.work.origin.get p = 0 ∧ t.work.address.get p = 0 ∧ t.work.attend.get p = some 500) ∧
    t.work.tagType = 0x89E2#16 ∧ t.work.controlType = 0x89E3#16 ∧ t.work.tripSet = [] ∧ t.work.sampledSet = [] ∧ t.work.settle = 1000 ∧
    t.work.forget = 5000 ∧ (∀ c, t.work.owner.get c = none ∧ t.work.trigger.get c = .command) ∧ (∀ n, t.work.filter.get n = 4) ∧
    t.settings.proposals = [] ∧ t.settings.fig = ⟨0, 0, 0, 0⟩) ∧
  exec (.powerOn (Vector.replicate _ false)) State.reset = .next State.reset

/-- The state right after reset has every property that the invariants state. -/
def Obligations.ResetIsSound : Prop :=
  LineQueuesFit State.reset ∧ LineLinksBusy State.reset ∧ ClientQueuesFit State.reset ∧ ClientLinksBusy State.reset ∧
    AttendanceSound State.reset ∧ TableSound State.reset ∧ CountsAgree State.reset ∧ PoolSound State.reset ∧ BuffersHeld State.reset ∧
    StartingIdle State.reset ∧ ProposalsSound State.reset ∧ ListsSound State.reset ∧ ListsAgree State.reset ∧ ChannelsSound State.reset ∧
    ChannelsOwned State.reset ∧ SettingsLegal State.reset

/-! ## Invariants that every step keeps -/

/-- Line queues hold at most 32 and 128 entries, a DOWN line sends nothing, and an idle line transmitter has nothing waiting (R14, R12, R15). -/
def Obligations.LinesStaySound : Prop :=
  ∀ s t : State, LineQueuesFit s ∧ LineLinksBusy s → step s = .next t → LineQueuesFit t ∧ LineLinksBusy t

/-- Client queues hold at most 32 and 128 entries and a reply lane 16, an idle transmitter of a link that is up has nothing waiting, a PRESENT port
keeps its link up, and an ABSENT port holds no notice in service and runs no attendance window (R95, R97, R99, section 6.1, R107, R173). -/
def Obligations.PortsStaySound : Prop :=
  ∀ s t : State, ClientQueuesFit s ∧ ClientLinksBusy s ∧ AttendanceSound s → step s = .next t →
    ClientQueuesFit t ∧ ClientLinksBusy t ∧ AttendanceSound t

/-- The Stream Table stays sound: the fields of every entry are present by its state and marks as the table of R20 gives, keys are unique, marks
follow the origins of the client ports, windows keep within reach, the recency list is exactly the unpinned LIVE entries; and the silent counts and
the pinned-live count stay the numbers of entries that they count (R20, R21, R24, R25, R29, R45, R65, R75). -/
def Obligations.TableStaysSound : Prop :=
  ∀ s t : State, TableSound s ∧ CountsAgree s ∧ SettingsLegal s ∧ StartingIdle s → step s = .next t → TableSound t ∧ CountsAgree t

/-- Each buffer's count stays the number of queue entries, transmissions and template slots that refer to it, the free count stays the number of
buffers to which no reference is held, the pool state fits the free count, and every POOL subject that a port holds has its free count (`PoolSound`,
`BuffersHeld`); and a buffer that is held before a step and after it holds the same bytes (R83, R86, R87). -/
def Obligations.PoolStaysCounted : Prop :=
  (∀ s t : State, PoolSound s ∧ BuffersHeld s ∧ ChannelsSound s → step s = .next t → PoolSound t ∧ BuffersHeld t) ∧
  ∀ (s t : State) (b : BufId), step s = .next t → (s.pool.bufs.get b).count ≠ 0 → (t.pool.bufs.get b).count ≠ 0 →
    (t.pool.bufs.get b).frame = (s.pool.bufs.get b).frame

/-- While the part is STARTING every port stays ABSENT, every channel EMPTY and every entry VACANT (R41, R102, R129). -/
def Obligations.StartingStaysIdle : Prop :=
  ∀ s t : State, StartingIdle s → step s = .next t → StartingIdle t

/-- The proposal list holds at most eight proposals, at most one for any one item, and none from an ABSENT port (R159). -/
def Obligations.ProposalsStaySound : Prop :=
  ∀ s t : State, ProposalsSound s → step s = .next t → ProposalsSound t

/-- No subscription list holds more than 96 members or a key twice, every hold time lies in 2 to 65535 ms, and the lists agree with the subscriber
sets and the supervision times of the entries (R26, R64, R117, R119). -/
def Obligations.ListsStaySound : Prop :=
  (∀ s t : State, ListsSound s → step s = .next t → ListsSound t) ∧
  ∀ s t : State, ListsSound s ∧ ListsAgree s ∧ TableSound s → step s = .next t → ListsAgree t

/-- Channel records stay sound: a current template in every state but EMPTY, a send time exactly while SENDING or STOPPING, a next template only while
ARMED, SENDING or STOPPING, schedules within their ranges, k at most 16, the send count at most 65535; and a channel without an owner stays EMPTY
(R129, R130, R131, R137, R146). -/
def Obligations.ChannelsStaySound : Prop :=
  (∀ s t : State, ChannelsSound s → step s = .next t → ChannelsSound t) ∧
  ∀ s t : State, ChannelsOwned s ∧ StartingIdle s → step s = .next t → ChannelsOwned t

/-- Every setting in force stays within its range, and no two ports come to hold one non-zero origin (R156, section 10.1). -/
def Obligations.SettingsStayLegal : Prop :=
  ∀ s t : State, SettingsLegal s → step s = .next t → SettingsLegal t

/-! ## Formats -/

/-- A control frame that carries a well-formed command reads back as that command with its source address and token, every field at every value that its
layout admits (R178, R177). -/
def Obligations.ControlFrameRoundTrip : Prop :=
  ∀ (dst src : Addr) (ctype : Word16) (token : BitVec 32) (c : Command), c.wf = true →
    decodeControl (encodeControl dst src ctype token c) = (src, token, c) ∧ frameType (encodeControl dst src ctype token c) = ctype ∧
      60 ≤ (encodeControl dst src ctype token c).length ∧ (encodeControl dst src ctype token c).length ≤ 1512

/-- A tagged copy carries TAG_TYPE, origin, class, line and sequence at the offsets of R177 with a spare bit of 0, removing the tag gives the frame
back, and the frame check computed over a frame matches it (R1, R3, R9, R177). -/
def Obligations.TagLayout : Prop :=
  ∀ (tagType : Word16) (t : Tag) (l : Line) (frame : List Byte), 14 ≤ frame.length →
    let f := insertTag tagType t l frame
    frameDst f = frameDst frame ∧ frameSrc f = frameSrc frame ∧ frameType f = tagType ∧ keyOrigin (half f 14) = t.origin ∧
      keyClass (half f 14) = some t.cls ∧ keyLine (half f 14) = l ∧ (half f 14).getLsbD 0 = false ∧ half f 16 = t.seq ∧
      half f 18 = frameType frame ∧ f.length = frame.length + 6 ∧ removeTag f = frame ∧
      checkMatches (withCheck f) = true ∧ frameData (withCheck f) = f ∧ (withCheck f).length = f.length + 4

/-! ## Acceptance -/

/-- A duplicate of H, or of a member of the window, is discarded and counted, and nothing else of the entry changes but by its match with the pending
pair: an echo on the pair's own line, a recorded skew on the other, which clears the pair; a local arrival matches nothing (R46, R48, R55, R59, R60,
R61). -/
def Obligations.DuplicatesDiscarded : Prop :=
  ∀ (e : Entry) (r : SeqRecord) (x : Arrival), e.state = .live → e.record = some r →
    (x.seq = r.high ∨ (32768 ≤ forwardDiff r.high x.seq ∧ backDist r.high x.seq ≤ 63 ∧ InWindow r x.seq)) →
    (e.judge x).2 = .discarded ∧
    (∀ l q, x.line = some l → e.pair = some q → q.seq = x.seq → q.line = l →
      (e.judge x).1 = { e with ctr := { e.ctr with duplicate := satInc e.ctr.duplicate, echoes := satInc e.ctr.echoes } }) ∧
    (∀ l q, x.line = some l → e.pair = some q → q.seq = x.seq → q.line ≠ l →
      ∃ d : Int, d.natAbs = min (elapsed x.time q.time) 65535 ∧ (l = .b → 0 ≤ d) ∧ (l = .a → d ≤ 0) ∧
        (e.judge x).1 = { e with
          ctr := { e.ctr with duplicate := satInc e.ctr.duplicate }, pair := none, lastSkew := some d,
          maxSkew := if ∀ m, e.maxSkew = some m → m.natAbs < d.natAbs then some d else e.maxSkew }) ∧
    ((x.line = none ∨ ∀ q, e.pair = some q → q.seq ≠ x.seq) →
      (e.judge x).1 = { e with ctr := { e.ctr with duplicate := satInc e.ctr.duplicate } })

/-- An arrival ahead of H is accepted: H becomes its sequence, the window keeps exactly the old members that stand at most 63 behind it, and the
sequences stepped over are counted missed. An arrival behind H within the window's reach that the window does not hold is accepted out of order: it
joins the window, no member leaves, H stands, and one sequence is taken off the missed count, which stops at 0 and stays when saturated (R45, R47,
R49, R57). -/
def Obligations.NewSequenceAccepted : Prop :=
  (∀ (e : Entry) (r : SeqRecord) (x : Arrival), e.state = .live → e.record = some r → WindowSound r →
      1 ≤ forwardDiff r.high x.seq → forwardDiff r.high x.seq ≤ 32767 →
      ∃ r' : SeqRecord, e.judge x =
          ({ e with record := some r', staleRun := 0, pair := PairAfter e x,
                    ctr := { e.ctr with accepted := satInc e.ctr.accepted,
                                        missed := satAdd e.ctr.missed (forwardDiff r.high x.seq - 1) } }, .accepted) ∧
        r'.high = x.seq ∧ WindowSound r' ∧
        ∀ y : Seq, InWindow r' y ↔ (y = x.seq ∨ (InWindow r y ∧ backDist x.seq y ≤ 63))) ∧
  (∀ (e : Entry) (r : SeqRecord) (x : Arrival), e.state = .live → e.record = some r → WindowSound r →
      32768 ≤ forwardDiff r.high x.seq → backDist r.high x.seq ≤ 63 → ¬ InWindow r x.seq →
      ∃ (r' : SeqRecord) (missed : Counter), e.judge x =
          ({ e with record := some r', staleRun := 0, pair := PairAfter e x,
                    ctr := { e.ctr with accepted := satInc e.ctr.accepted, outOfOrder := satInc e.ctr.outOfOrder, missed := missed } }, .accepted) ∧
        r'.high = r.high ∧ WindowSound r' ∧ (∀ y : Seq, InWindow r' y ↔ (y = x.seq ∨ InWindow r y)) ∧
        missed.toNat = (if e.ctr.missed.toNat = 4294967295 then 4294967295 else e.ctr.missed.toNat - 1))

/-- A stale arrival to a LIVE entry is discarded and counted while its run is below eight, leaving record and pair; the eighth re-bases the entry and is
accepted. An arrival to an OPEN or QUIET entry is accepted whatever its sequence, becomes the one member of the window, and makes the entry LIVE
(R50, R51, R53, R57). -/
def Obligations.EntryRebased : Prop :=
  (∀ (e : Entry) (r : SeqRecord) (x : Arrival), e.state = .live → e.record = some r →
      32768 ≤ forwardDiff r.high x.seq → 64 ≤ backDist r.high x.seq →
      (e.staleRun < 7 →
        e.judge x = ({ e with staleRun := e.staleRun + 1, ctr := { e.ctr with stale := satInc e.ctr.stale } }, .discarded)) ∧
      (7 ≤ e.staleRun →
        e.judge x = ({ e with record := some { high := x.seq, window := [0] }, staleRun := 0, pair := PairAfter e x,
                              ctr := { e.ctr with accepted := satInc e.ctr.accepted, resyncs := satInc e.ctr.resyncs } }, .resynced))) ∧
  (∀ (e : Entry) (x : Arrival), e.state = .opened ∨ e.state = .quiet →
      e.judge x = ({ e with record := some { high := x.seq, window := [0] }, staleRun := 0, state := .live, pair := PairAfter e x,
                            ctr := { e.ctr with accepted := satInc e.ctr.accepted } }, .accepted))

/-! ## Line ports -/

/-- A line frame that ends in bad check, bad tag, own-origin or no-buffer is counted so, once, at its line (crossed besides where its line field names
the other line), and leaves no trace elsewhere but LOOP at the PRESENT ports for own-origin and the pool's refusal figure for no-buffer (R3, R4, R5,
R6, R7, R8, R85, R88). -/
def Obligations.LineFramesDropped : Prop :=
  ∀ (l : Line) (frame : List Byte) (s : State), Listens l s →
    (frame.length < 64 ∨ 1522 < frame.length ∨ checkMatches frame = false →
      ∃ u, exec (.lineFrameCompletion l frame) s = .next (presentAll u) ∧ OnlyChanges [.line l] s u ∧
        u.line l = { s.line l with ctr := { (s.line l).ctr with badCheck := satInc (s.line l).ctr.badCheck } }) ∧
    (64 ≤ frame.length → frame.length ≤ 1522 → checkMatches frame = true → frameType (frameData frame) = s.work.tagType →
      (frame.length < 70 ∨ (keyOrigin (half (frameData frame) 14)).toNat = 0 ∨ 4000 < (keyOrigin (half (frameData frame) 14)).toNat ∨
        (half (frameData frame) 14).extractLsb' 2 2 = 3#2) →
      ∃ u, exec (.lineFrameCompletion l frame) s = .next (presentAll u) ∧ OnlyChanges [.line l] s u ∧
        u.line l = { s.line l with ctr := { (s.line l).ctr with badTag := satInc (s.line l).ctr.badTag } }) ∧
    (∀ k m q, Tagged s.work.tagType k m q frame → (∃ p, s.work.origin.get p = k.origin) →
      ∃ u, exec (.lineFrameCompletion l frame) s = .next (presentAll u) ∧ OnlyChanges (.line l :: noticeParts) s u ∧
        u.line l = { s.line l with ctr := { (s.line l).ctr with ownOrigin := satInc (s.line l).ctr.ownOrigin } } ∧
        RaisedExactly .loop (.loop l k.origin) (fun p => (s.port p).present = true) s u) ∧
    (∀ k m q, Tagged s.work.tagType k m q frame → (∀ p, s.work.origin.get p ≠ k.origin) →
      (s.pool.free = 0 ∨ (k.cls ≠ .trip ∧ s.pool.free ≤ 32)) →
      ∃ u, exec (.lineFrameCompletion l frame) s = .next (presentAll u) ∧ OnlyChanges [.line l, .pool] s u ∧
        u.line l = { s.line l with ctr := { (s.line l).ctr with
          noBuffer := satInc (s.line l).ctr.noBuffer,
          crossed := if m = l then (s.line l).ctr.crossed else satInc (s.line l).ctr.crossed } } ∧
        RefusalCounted s u) ∧
    (Untagged s.work.tagType frame → s.pool.free ≤ 32 →
      ∃ u, exec (.lineFrameCompletion l frame) s = .next (presentAll u) ∧ OnlyChanges [.line l, .pool] s u ∧
        u.line l = { s.line l with ctr := { (s.line l).ctr with noBuffer := satInc (s.line l).ctr.noBuffer } } ∧
        RefusalCounted s u)

/-- An untagged frame that is granted a buffer is counted untagged in, touches no stream, and is given by its destination address: to every PRESENT
port for a multicast, else to the PRESENT ports of that ADDRESS, on their routine queues, with QUEUE_LOSS where a full one drops its head; a unicast
frame that matches none is counted unmatched (R7, R83, R86, R87, R91, R95). -/
def Obligations.UntaggedDelivered : Prop :=
  ∀ (l : Line) (frame : List Byte) (s : State), Listens l s → Untagged s.work.tagType frame → 33 ≤ s.pool.free → PoolSound s →
    ∃ (u : State) (b : BufId), exec (.lineFrameCompletion l frame) s = .next (presentAll u) ∧ Takes b (frameData frame) s u ∧
      OnlyChanges (.line l :: deliveryParts) s u ∧ OnlyCauses [.pool, .queueLoss] s u ∧ PoolTold s u ∧
      HandedOnFromLine l b (frameData frame) { (s.line l).ctr with untaggedIn := satInc (s.line l).ctr.untaggedIn } s u

/-- A tagged frame of a remote origin that is granted a buffer, for a key that the table holds: counted tagged in (crossed besides), its entry judged
and stamped with the arrival. Whatever the outcome, a watched LIVE entry has the line HEARD and its deadline restarted, with STREAM_BACK for a SILENT
line; a watched OPEN or QUIET one begins its supervision, with STREAM_BACK for QUIET; an unpinned one goes to the tail of the recency list with a new
forget deadline. A resync raises RESYNC at the subscribers with the new H. An accepted TRIP or SAMPLED frame is given without its tag to exactly the
PRESENT subscribers, an accepted GENERAL one by its destination address, counted unmatched where it matches no PRESENT port, with QUEUE_LOSS where a
full queue drops its head; a discarded frame reaches no client port (R6, R9, R22, R52, R62, R66, R70, R83, R89, R91, R95). -/
def Obligations.ArrivalJudged : Prop :=
  ∀ (l : Line) (frame : List Byte) (s : State) (k : Key) (m : Line) (q : Seq) (i : EntryId), Listens l s → Tagged s.work.tagType k m q frame →
    (∀ p, s.work.origin.get p ≠ k.origin) → (33 ≤ s.pool.free ∨ (k.cls = .trip ∧ 1 ≤ s.pool.free)) → PoolSound s → TableSound s →
    (s.entry i).key = some k →
    let e := s.entry i
    let j := e.judge { seq := q, line := some l, time := s.clock }
    let stamped : Entry := { j.1 with lastAny := some s.clock, lastArr := e.lastArr.set l (some s.clock) }
    let c : LineCounters := { (s.line l).ctr with
      taggedIn := satInc (s.line l).ctr.taggedIn, crossed := if m = l then (s.line l).ctr.crossed else satInc (s.line l).ctr.crossed }
    ∃ (u : State) (b : BufId), exec (.lineFrameCompletion l frame) s = .next (presentAll (judgeVerdicts s u)) ∧
      Takes b (removeTag (frameData frame)) s u ∧ OnlyChanges (.line l :: .entry i :: .recency :: .sup :: deliveryParts) s u ∧
      OnlyCauses [.pool, .queueLoss, .streamBack, .resync] s u ∧ PoolTold s u ∧
      (∀ h T, e.watched = true → e.state = .live → e.hearing = some h → e.sup = some T →
        u.entry i = { stamped with hearing := some (h.set l .heard), lineDl := e.lineDl.set l (some (s.clock + ms T)) } ∧
        u.sup = (if h.get l = .silent then { s.sup with silent := s.sup.silent.set l (s.sup.silent.get l - 1) } else s.sup) ∧
        ∀ p, (u.notice p).of .streamBack = (if h.get l = .silent ∧ e.subs.get p = true
          then ((s.notice p).of .streamBack).raised (.stream (some k) (some (h.set l .heard))) else (s.notice p).of .streamBack)) ∧
      (∀ T, e.watched = true → e.state = .opened ∨ e.state = .quiet → e.sup = some T →
        u.entry i = { stamped with
          hearing := some (PerLine.set ⟨.unheard, .unheard⟩ l .heard), lineDl := ⟨some (s.clock + ms T), some (s.clock + ms T)⟩ } ∧
        u.sup = { s.sup with pinnedLive := s.sup.pinnedLive + 1 } ∧
        ∀ p, (u.notice p).of .streamBack = (if e.state = .quiet ∧ e.subs.get p = true
          then ((s.notice p).of .streamBack).raised (.stream (some k) (u.entry i).hearing) else (s.notice p).of .streamBack)) ∧
      (e.pinned = true → u.table.recency = s.table.recency) ∧
      (e.pinned = false → u.entry i = { stamped with forgetDl := some (s.clock + ms s.work.forget) } ∧
        u.table.recency = s.table.recency.filter (fun j => decide (j ≠ i)) ++ [i] ∧ u.sup = s.sup ∧
        ∀ p, (u.notice p).of .streamBack = (s.notice p).of .streamBack) ∧
      (∀ p, (u.notice p).of .resync = (if j.2 = .resynced ∧ e.subs.get p = true
        then ((s.notice p).of .resync).raised (.resync (some k) q) else (s.notice p).of .resync)) ∧
      (j.2 ≠ .discarded → k.cls = .general → HandedOnFromLine l b (removeTag (frameData frame)) c s u) ∧
      (j.2 ≠ .discarded → k.cls ≠ .general → u.line l = { s.line l with ctr := c } ∧
        ∀ p, GivenTo (e.subs.get p = true ∧ (s.port p).present = true) (decide (k.cls = .trip)) b (removeTag (frameData frame)) p s u) ∧
      (j.2 = .discarded → u.line l = { s.line l with ctr := c } ∧ NoneGiven s u)

/-- A tagged frame of a remote origin that is granted a buffer, for a key that the table does not hold, founds an entry: the lowest VACANT one,
unpinned and LIVE, with its sequence as H and the one member of the window, at the tail of the recency list, counted as an arrival allocation; a full
table first evicts the head of the recency list, which is counted. A TRIP or SAMPLED frame then reaches no client port, and a GENERAL one is delivered
by its address (R9, R31, R32, R34, R83, R91). -/
def Obligations.ArrivalFounds : Prop :=
  ∀ (l : Line) (frame : List Byte) (s : State) (k : Key) (m : Line) (q : Seq) (i : EntryId), Listens l s → Tagged s.work.tagType k m q frame →
    (∀ p, s.work.origin.get p ≠ k.origin) → (33 ≤ s.pool.free ∨ (k.cls = .trip ∧ 1 ≤ s.pool.free)) → PoolSound s → (∀ j, (s.entry j).key ≠ some k) →
    let c : LineCounters := { (s.line l).ctr with
      taggedIn := satInc (s.line l).ctr.taggedIn, crossed := if m = l then (s.line l).ctr.crossed else satInc (s.line l).ctr.crossed }
    let founded (u : State) (b : BufId) : Prop :=
      exec (.lineFrameCompletion l frame) s = .next (presentAll u) ∧ Takes b (removeTag (frameData frame)) s u ∧
      OnlyChanges (.line l :: .entry i :: .recency :: .tableCtr :: deliveryParts) s u ∧ OnlyCauses [.pool, .queueLoss] s u ∧ PoolTold s u ∧
      u.entry i =
        { Entry.vacant with
          key := some k, state := .live, record := some { high := q, window := [0] }, lastArr := PerLine.set ⟨none, none⟩ l (some s.clock),
          lastAny := some s.clock, forgetDl := some (s.clock + ms s.work.forget), pair := some { seq := q, line := l, time := s.clock },
          ctr := { EntryCounters.zero with accepted := 1 } } ∧
      (k.cls = .general → HandedOnFromLine l b (removeTag (frameData frame)) c s u) ∧
      (k.cls ≠ .general → u.line l = { s.line l with ctr := c } ∧ NoneGiven s u)
    ((s.entry i).state = .vacant → (∀ j, j < i → (s.entry j).state ≠ .vacant) →
      ∃ u b, founded u b ∧ u.table.recency = s.table.recency.filter (fun j => decide (j ≠ i)) ++ [i] ∧
        u.table.ctr = { s.table.ctr with arrivalAllocs := satInc s.table.ctr.arrivalAllocs }) ∧
    ∀ rest, TableSound s → (∀ j, (s.entry j).state ≠ .vacant) → s.table.recency = i :: rest →
      ∃ u b, founded u b ∧ u.table.recency = rest ++ [i] ∧
        u.table.ctr = { s.table.ctr with arrivalAllocs := satInc s.table.ctr.arrivalAllocs, evictions := satInc s.table.ctr.evictions }

/-- A link-up on a DOWN line starts the settle timer, or takes the port straight to UP when SETTLE is 0, or waits SETTLING while the part is STARTING;
and the timer's end, SETTLE after its start, takes the port to UP (R10, R11). -/
def Obligations.LineSettles : Prop :=
  (∀ (l : Line) (s : State), (s.line l).link = .down →
    ∃ u, exec (.lineLinkUp l) s = .next (presentAll (judgeVerdicts s u)) ∧ OnlyChanges [.line l] s u ∧
      u.line l = (if s.starting = true then { s.line l with link := .settling }
        else if s.work.settle = 0 then { s.line l with link := .up, settleStart := none }
        else { s.line l with link := .settling, settleStart := some s.clock })) ∧
  (∀ (l : Line) (s : State) (t : Time), (s.line l).link = .settling → (s.line l).settleStart = some t →
    s.work.settle * 1000 ≤ (s.clock - t).toNat →
    ∃ u, exec (.settleTimerExpiry l) s = .next (presentAll (judgeVerdicts s u)) ∧ OnlyChanges [.line l] s u ∧
      u.line l = { s.line l with link := .up, settleStart := none })

/-- A link loss takes the line DOWN: its timer cancelled, its transmission cut off and counted lost, its queues flushed and counted. It silences the
line at every watched entry: a LIVE entry whose other line is HEARD stays LIVE and is single, any other LIVE entry goes QUIET, a QUIET one takes
SILENT; OPEN, local and unpinned entries are not touched. The counts follow, and STREAM_SINGLE or STREAM_QUIET is raised at the subscribers of each
entry that went single or QUIET, in increasing entry number (R12, R74, R75, R77, R87; the record of what the link last carried, `sent`, is the model's
own, log entry 9). -/
def Obligations.LineLossSilences : Prop :=
  ∀ (l : Line) (s : State), (s.line l).link ≠ .down →
    ∃ u, exec (.lineLinkLoss l) s = .next (presentAll (judgeVerdicts s u)) ∧ OnlyChanges (.line l :: .sup :: entryParts ++ poolParts) s u ∧
      u.line l = { s.line l with
        link := .down, settleStart := none, urgent := [], routine := [], tx := none,
        sent := (match (s.line l).tx with | some t => some ⟨.cutOff, t.wire⟩ | none => (s.line l).sent),
        ctr := { (s.line l).ctr with
          lost := if (s.line l).tx.isSome then satInc (s.line l).ctr.lost else (s.line l).ctr.lost,
          flushed := satAdd (s.line l).ctr.flushed ((s.line l).urgent.length + (s.line l).routine.length),
          linkLosses := satInc (s.line l).ctr.linkLosses } } ∧
      (TableSound s → CountsAgree s → CountsAgree u) ∧
      OnlyCauses [.pool, .streamQuiet, .streamSingle] s u ∧ (PoolSound s → PoolTold s u) ∧ (∀ p, StreamsTold InNumberOrder p s u) ∧
      ∀ i, (∀ h, (s.entry i).watched = true → (s.entry i).state = .live → (s.entry i).hearing = some h → h.get l ≠ .silent →
          h.get (otherLine l) = .heard →
          u.entry i = { s.entry i with hearing := some (h.set l .silent), lineDl := (s.entry i).lineDl.set l none }) ∧
        (∀ h, (s.entry i).watched = true → (s.entry i).state = .live → (s.entry i).hearing = some h → h.get l ≠ .silent →
          h.get (otherLine l) ≠ .heard →
          u.entry i = { s.entry i with state := .quiet, hearing := some (h.set l .silent), lineDl := ⟨none, none⟩ }) ∧
        (∀ h, (s.entry i).watched = true → (s.entry i).state = .quiet → (s.entry i).hearing = some h →
          u.entry i = { s.entry i with hearing := some (h.set l .silent) }) ∧
        ((s.entry i).watched = false ∨ (s.entry i).state = .opened ∨ (s.entry i).state = .vacant ∨
            (∃ h, (s.entry i).state = .live ∧ (s.entry i).hearing = some h ∧ h.get l = .silent) →
          u.entry i = s.entry i)

/-- A line transmission completes: counted by its queue, its reference released, and the next one begun with the head of the urgent queue, else of the
routine queue, with the TAG_TYPE in force. The release of a buffer's last reference makes it free, and one that brings the free count of a LOW pool to
65 makes the pool AMPLE, with POOL at the PRESENT ports (R15, R16, R83, R87; the record `sent` is the model's own, log entry 9). -/
def Obligations.LineTransmitsNext : Prop :=
  ∀ (l : Line) (s : State) (t : LineTx), (s.line l).tx = some t → (s.line l).link ≠ .down →
    ∃ u, exec (.lineTransmissionCompletion l) s = .next (presentAll u) ∧ OnlyChanges (.line l :: poolParts) s u ∧
      (u.pool.bufs.get t.buf).count = (s.pool.bufs.get t.buf).count - 1 ∧
      u.pool.free = (if (s.pool.bufs.get t.buf).count = 1 then s.pool.free + 1 else s.pool.free) ∧
      OnlyCauses [.pool] s u ∧ (PoolSound s → PoolTold s u ∧ (u.pool.low = true ↔ s.pool.low = true ∧ u.pool.free ≤ 64)) ∧
      let done : LinePort := { s.line l with
        tx := none, sent := some ⟨.completed, t.wire⟩,
        ctr := if t.urgent then { (s.line l).ctr with txUrgent := satInc (s.line l).ctr.txUrgent }
               else { (s.line l).ctr with txRoutine := satInc (s.line l).ctr.txRoutine } }
      u.line l = (match (s.line l).urgent, (s.line l).routine with
        | e :: rest, _ => { done with urgent := rest, tx := some ⟨e.buf, true, lineWire s.work.tagType e.tag l (u.frameOf e.buf)⟩ }
        | [], e :: rest => { done with routine := rest, tx := some ⟨e.buf, false, lineWire s.work.tagType e.tag l (u.frameOf e.buf)⟩ }
        | [], [] => done)

/-! ## Verdicts and supervision -/

/-- The verdict of a line is DOWN unless its link is UP, and else by its silent count: SOUND at 0, DEAF where it is the pinned-live count, PARTIAL
between. Judged once at the end of an event, a change of either verdict raises LINE once, at the ports that are PRESENT, with both verdicts and the
counts (R79, R80). That a port which the event itself makes ABSENT or PRESENT has none is the model's reading, log entry 15. -/
def Obligations.VerdictsJudged : Prop :=
  (∀ (s : State) (l : Line), (s.sup.silent.get l ≤ s.sup.pinnedLive) →
    (verdict s l = .down ↔ (s.line l).link ≠ .up) ∧
    (verdict s l = .sound ↔ (s.line l).link = .up ∧ s.sup.silent.get l = 0) ∧
    (verdict s l = .deaf ↔ (s.line l).link = .up ∧ s.sup.silent.get l = s.sup.pinnedLive ∧ 1 ≤ s.sup.pinnedLive) ∧
    (verdict s l = .partly ↔ (s.line l).link = .up ∧ 1 ≤ s.sup.silent.get l ∧ s.sup.silent.get l < s.sup.pinnedLive)) ∧
  ∀ s u : State,
    ((∀ l, verdict u l = verdict s l) → judgeVerdicts s u = u) ∧
    ((∃ l, verdict u l ≠ verdict s l) → OnlyChanges noticeParts u (judgeVerdicts s u) ∧
      RaisedExactly .line (.line (verdict u .a) (verdict u .b) u.sup.silent.a u.sup.silent.b u.sup.pinnedLive)
        (fun p => (s.port p).present = true ∧ (u.port p).present = true) u (judgeVerdicts s u))

/-- At a line deadline's expiry the line is SILENT: with the other line HEARD the entry stays LIVE and single, the line's silent count rises and
STREAM_SINGLE is raised at the subscribers; else the entry goes QUIET, its contributions are removed and STREAM_QUIET is raised (R67, R74, R76; that a
deadline counts as reached at most half a period behind the clock is the model's reading, log entry 25). -/
def Obligations.LineDeadlineSilences : Prop :=
  ∀ (i : EntryId) (l : Line) (s : State) (h : PerLine Hearing) (d : Time), (s.entry i).watched = true → (s.entry i).state = .live →
    (s.entry i).hearing = some h → h.get l ≠ .silent → (s.entry i).lineDl.get l = some d → (s.clock - d).toNat < 2147483648 →
    1 ≤ s.sup.pinnedLive →
    ∃ u, exec (.lineDeadlineExpiry i l) s = .next (presentAll (judgeVerdicts s u)) ∧ OnlyChanges (watchParts i) s u ∧
      (h.get (otherLine l) = .heard →
        u.entry i = { s.entry i with hearing := some (h.set l .silent), lineDl := (s.entry i).lineDl.set l none } ∧
        u.sup = { s.sup with silent := s.sup.silent.set l (s.sup.silent.get l + 1) } ∧
        RaisedExactly .streamSingle (.stream (s.entry i).key (some (h.set l .silent))) (fun p => (s.entry i).subs.get p = true) s u) ∧
      (h.get (otherLine l) ≠ .heard →
        u.entry i = { s.entry i with state := .quiet, hearing := some (h.set l .silent), lineDl := ⟨none, none⟩ } ∧
        u.sup.pinnedLive = s.sup.pinnedLive - 1 ∧ u.sup.silent.get l = s.sup.silent.get l ∧
        u.sup.silent.get (otherLine l) =
          (if h.get (otherLine l) = .silent then s.sup.silent.get (otherLine l) - 1 else s.sup.silent.get (otherLine l)) ∧
        RaisedExactly .streamQuiet (.stream (s.entry i).key (some (h.set l .silent))) (fun p => (s.entry i).subs.get p = true) s u)

/-- At its local deadline's expiry a pinned LIVE local entry goes QUIET, with STREAM_QUIET at its subscribers and no hearing in the subject; at its
forget deadline's expiry an entry is VACANT with every field cleared, off the recency list, and counted (R73, R74, R36, R20; that a deadline counts as
reached at most half a period behind the clock is the model's reading, log entry 25). -/
def Obligations.EntryDeadlinesEnd : Prop :=
  (∀ (i : EntryId) (s : State) (d : Time), (s.entry i).pinned = true → (s.entry i).isLocal = true → (s.entry i).state = .live →
    (s.entry i).hearing = none → (s.entry i).localDl = some d → (s.clock - d).toNat < 2147483648 →
    ∃ u, exec (.localDeadlineExpiry i) s = .next (presentAll u) ∧ OnlyChanges (.entry i :: noticeParts) s u ∧
      u.entry i = { s.entry i with state := .quiet, localDl := none } ∧
      RaisedExactly .streamQuiet (.stream (s.entry i).key none) (fun p => (s.entry i).subs.get p = true) s u) ∧
  (∀ (i : EntryId) (s : State) (d : Time), (s.entry i).forgetDl = some d → (s.clock - d).toNat < 2147483648 →
    ∃ u, exec (.forgetDeadlineExpiry i) s = .next (presentAll u) ∧ OnlyChanges [.entry i, .recency, .tableCtr] s u ∧
      u.entry i = Entry.vacant ∧ u.table.recency = s.table.recency.filter (fun j => decide (j ≠ i)) ∧
      u.table.ctr = { s.table.ctr with forgets := satInc s.table.ctr.forgets })

/-! ## Client ports -/

/-- At the loss of its link, and at the end of its attendance window, a PRESENT port becomes ABSENT with that reason, counted; an ABSENT port that
loses its link loses what its lane and its transmitter hold, and no PEER is raised. CHANNEL is raised at the port for each COMMAND burst that its
change ends, PEER at the other PRESENT ports, POOL there as the released buffers have it, and nothing else. Its other counters, its list, its sequence
counters and its source address are kept (`emptied`; R87, R101, R106, R107, R108, R115, R116, R144, R145,
R173; that a POOL raised by the port's own flush does not reach it is the model's reading, log entry 16; that a window counts as ended at most half a
period behind the clock, log entry 25; the record `sent` is the model's own, log entry 9). -/
def Obligations.AttendanceLost : Prop :=
  (∀ (p : Port) (s : State), (s.port p).linkUp = true → (s.port p).present = true →
    ∃ u, exec (.clientLinkLoss p) s = .next (presentAll u) ∧ OnlyChanges (absentParts p) s u ∧ WentAbsent p .link s u ∧
      u.port p = { emptied (s.port p) with
        linkUp := false, ctr := { (emptied (s.port p)).ctr with linkLosses := satInc (s.port p).ctr.linkLosses } }) ∧
  (∀ (p : Port) (s : State) (d : Time), (s.port p).present = true → (s.port p).window = some d → (s.clock - d).toNat < 2147483648 →
    ∃ u, exec (.attendanceWindowExpiry p) s = .next (presentAll u) ∧ OnlyChanges (absentParts p) s u ∧ WentAbsent p .attendance s u ∧
      u.port p = { emptied (s.port p) with ctr := { (emptied (s.port p)).ctr with lapses := satInc (s.port p).ctr.lapses } }) ∧
  (∀ (p : Port) (s : State), (s.port p).linkUp = true → (s.port p).present = false → (s.port p).window = none →
    ∃ u, exec (.clientLinkLoss p) s = .next (presentAll u) ∧ OnlyChanges (portParts p) s u ∧
      u.port p = { emptied (s.port p) with
        linkUp := false, ctr := { (emptied (s.port p)).ctr with linkLosses := satInc (s.port p).ctr.linkLosses } } ∧
      OnlyCauses [.pool] s u ∧ (PoolSound s → PoolTold s u))

/-- A frame that completes at a client port outside STARTING: dropped and counted as bad check, too long or bad type, or, with CONTROL_TYPE, the
command that it carries, which has then the effect of that command's own row; a code that R178 does not list is answered BAD_FORM to a PRESENT port
and NOT_PRESENT to an ABSENT one, and is dropped at a full lane (R103, R104, R168, R178). -/
def Obligations.ClientFramesJudged : Prop :=
  ∀ (p : Port) (frame : List Byte) (s : State), (s.port p).linkUp = true → s.starting = false →
    (frame.length < 64 ∨ checkMatches frame = false →
      ∃ u, exec (.clientFrameCompletion p frame) s = .next (presentAll u) ∧ OnlyChanges [.port p] s u ∧
        u.port p = { s.port p with ctr := { (s.port p).ctr with badCheck := satInc (s.port p).ctr.badCheck } }) ∧
    (1516 < frame.length → checkMatches frame = true →
      ∃ u, exec (.clientFrameCompletion p frame) s = .next (presentAll u) ∧ OnlyChanges [.port p] s u ∧
        u.port p = { s.port p with ctr := { (s.port p).ctr with tooLong := satInc (s.port p).ctr.tooLong } }) ∧
    (64 ≤ frame.length → frame.length ≤ 1516 → checkMatches frame = true → frameType (frameData frame) ≠ s.work.controlType →
      frameType (frameData frame) = s.work.tagType →
      ∃ u, exec (.clientFrameCompletion p frame) s = .next (presentAll u) ∧ OnlyChanges [.port p] s u ∧
        u.port p = { s.port p with ctr := { (s.port p).ctr with badType := satInc (s.port p).ctr.badType } }) ∧
    (64 ≤ frame.length → frame.length ≤ 1516 → checkMatches frame = true → frameType (frameData frame) = s.work.controlType →
      ∀ src token c, decodeControl (frameData frame) = (src, token, c) →
        (∀ i, asInstr p src token c = some i → exec (.clientFrameCompletion p frame) s = exec i s) ∧
        (∀ code, c = .unknown code → Commands p s →
          ∃ u, exec (.clientFrameCompletion p frame) s = .next (presentAll u) ∧ OnlyChanges [.port p, .queues p] s u ∧
            Answered p src token code .badForm .empty s u) ∧
        (∀ code, c = .unknown code → LaneOpen p s → (s.port p).present = false →
          ∃ u, exec (.clientFrameCompletion p frame) s = .next (presentAll u) ∧ OnlyChanges [.port p, .queues p] s u ∧
            Joined (replyFrame p src token code .notPresent .empty u) (noted p src s) (u.port p)) ∧
        (∀ code, c = .unknown code → 16 ≤ (s.port p).lane.length →
          ∃ u, exec (.clientFrameCompletion p frame) s = .next (presentAll u) ∧ OnlyChanges [.port p] s u ∧ u.port p = dropped p s))

/-- A client's data frame that is granted a buffer: given to its neighbours alone, or else sent out on both lines under its class, tagged with the
next sequence of its port or untagged while ORIGIN(p) is 0, in ABSENT and PRESENT alike, with its local arrival and its delivery to the other ports
(`SentOut`). Given to neighbours it takes no sequence, makes no local arrival and touches neither line nor table. Its own port is never given it, and
keeps its attendance window. A frame that is refused a buffer is counted at the port and by the pool and leaves no other trace (R23, R83, R85, R88,
R90, R92, R95, R103, R106, R111, R112, R113). -/
def Obligations.DataFrameOriginated : Prop :=
  ∀ (p : Port) (frame : List Byte) (s : State), (s.port p).linkUp = true → s.starting = false → PoolSound s →
    64 ≤ frame.length → frame.length ≤ 1516 → checkMatches frame = true → frameType (frameData frame) ≠ s.work.controlType →
    frameType (frameData frame) ≠ s.work.tagType →
    let data := frameData frame
    let cls : Cls := if frameType data ∈ s.work.tripSet then .trip else if frameType data ∈ s.work.sampledSet then .sampled else .general
    let near : Port → Prop := fun q => q ≠ p ∧ cls = .general ∧ isMulticast (frameDst data) = false ∧ Matches s (frameDst data) q
    (s.pool.free = 0 ∨ (cls ≠ .trip ∧ s.pool.free ≤ 32) →
      ∃ u, exec (.clientFrameCompletion p frame) s = .next (presentAll u) ∧ OnlyChanges [.port p, .pool] s u ∧ RefusalCounted s u ∧
        u.port p = { s.port p with ctr := { (s.port p).ctr with
          dataIn := satInc (s.port p).ctr.dataIn, noBuffer := satInc (s.port p).ctr.noBuffer } }) ∧
    (33 ≤ s.pool.free ∨ (cls = .trip ∧ 1 ≤ s.pool.free) → (∃ q, near q) →
      ∃ (u : State) (b : BufId), exec (.clientFrameCompletion p frame) s = .next (presentAll u) ∧ OnlyChanges deliveryParts s u ∧
        OnlyCauses [.pool, .queueLoss] s u ∧ PoolTold s u ∧ Takes b data s u ∧
        u.port p = { s.port p with ctr := { (s.port p).ctr with
          dataIn := satInc (s.port p).ctr.dataIn, neighbour := satInc (s.port p).ctr.neighbour } } ∧
        (u.notice p).of .queueLoss = (s.notice p).of .queueLoss ∧ ∀ q, q ≠ p → GivenTo (near q) false b data q s u) ∧
    (33 ≤ s.pool.free ∨ (cls = .trip ∧ 1 ≤ s.pool.free) → (∀ q, ¬ near q) →
      ∃ (u : State) (b : BufId), exec (.clientFrameCompletion p frame) s = .next (presentAll u) ∧ OnlyChanges sendParts s u ∧
        OnlyCauses [.pool, .queueLoss, .streamBack, .resync] s u ∧ PoolTold s u ∧ Takes b data s u ∧ SentOut p cls b data s u ∧
        u.port p = { s.port p with
          seqs := (u.port p).seqs,
          ctr := if s.work.origin.get p = 0
            then { (s.port p).ctr with dataIn := satInc (s.port p).ctr.dataIn, untaggedOut := satInc (s.port p).ctr.untaggedOut }
            else { (s.port p).ctr with dataIn := satInc (s.port p).ctr.dataIn, taggedOut := satInc (s.port p).ctr.taggedOut } })

/-- A client transmission completes: counted by its queue, its reference released, and the next one begun with the head of the urgent queue, else of
the lane, else of the routine queue. A link-up at a client port changes the link state alone, and the transmitter serves what waits in the lane (R99,
R102; the record `sent` is the model's own, log entry 9). -/
def Obligations.ClientLinkServes : Prop :=
  (∀ (p : Port) (s : State) (t : ClientTx), (s.port p).tx = some t → (s.port p).linkUp = true →
      ∃ u, exec (.clientTransmissionCompletion p) s = .next (presentAll u) ∧ OnlyChanges (portParts p) s u ∧
        OnlyCauses [.pool] s u ∧ (PoolSound s → PoolTold s u) ∧
        (∀ b, t.buf = some b → (u.pool.bufs.get b).count = (s.pool.bufs.get b).count - 1) ∧
        let done : ClientPort := { s.port p with
          tx := none, sent := some ⟨.completed, t.wire⟩,
          ctr := (match t.queue with
            | .urgent => { (s.port p).ctr with txUrgent := satInc (s.port p).ctr.txUrgent }
            | .lane => { (s.port p).ctr with txLane := satInc (s.port p).ctr.txLane }
            | .routine => { (s.port p).ctr with txRoutine := satInc (s.port p).ctr.txRoutine }) }
        u.port p = (match (s.port p).urgent, (s.port p).lane, (s.port p).routine with
          | b :: rest, _, _ => { done with urgent := rest, tx := some ⟨.urgent, some b, withCheck (u.frameOf b)⟩ }
          | [], f :: rest, _ => { done with lane := rest, tx := some ⟨.lane, none, withCheck f.data⟩ }
          | [], [], b :: rest => { done with routine := rest, tx := some ⟨.routine, some b, withCheck (u.frameOf b)⟩ }
          | [], [], [] => done)) ∧
  (∀ (p : Port) (s : State), (s.port p).linkUp = false → (s.port p).tx = none → (s.port p).urgent = [] → (s.port p).routine = [] →
      ∃ u, exec (.clientLinkUp p) s = .next (presentAll u) ∧ OnlyChanges [.port p, .queues p] s u ∧
        u.port p = (match (s.port p).lane with
          | f :: rest => { s.port p with linkUp := true, lane := rest, tx := some ⟨.lane, none, withCheck f.data⟩ }
          | [] => { s.port p with linkUp := true }))

/-! ## Control frames -/

/-- A client command changes nothing during STARTING and while its link is DOWN (that none arrives over a link that is DOWN, section 6.1, is modelled
as an event without effect, the model's choice, log entry 2); with the reply lane full it is dropped without a reply and counted; and from an ABSENT
port every command but HELLO is answered NOT_PRESENT and changes nothing else than the port's record of the frame (R102, R104, R178). -/
def Obligations.CommandsTurnedAway : Prop :=
  ∀ (p : Port) (src : Addr) (token : BitVec 32) (c : Command) (i : Instr) (s : State), asInstr p src token c = some i →
    ((s.port p).linkUp = false ∨ s.starting = true → exec i s = .next s) ∧
    ((s.port p).linkUp = true → s.starting = false → 16 ≤ (s.port p).lane.length →
      ∃ u, exec i s = .next (presentAll u) ∧ OnlyChanges [.port p] s u ∧
        u.port p = dropped p s) ∧
    (LaneOpen p s → (s.port p).present = false → (∀ fresh, c ≠ .hello fresh) →
      ∃ u body, exec i s = .next (presentAll u) ∧ OnlyChanges [.port p, .queues p] s u ∧
        Joined (replyFrame p src token c.code .notPresent body u) (noted p src s) (u.port p))

/-- HELLO makes an ABSENT port PRESENT and starts its window, with PEER at the other PRESENT ports and the REPLY DONE; fresh empties the subscription
list first, and the port leaves every entry that it subscribed to, as by an UNSUBSCRIBE of each; else the list is kept. From a PRESENT port it
restarts the window, raises no PEER, and fresh empties the list; and so KEEP, which does nothing but restart the window. The port itself is told
nothing of the clearing, the other subscribers of its streams what becomes of them. The entries that the clearing unpins join the recency list by age
in the order of the port's list, and those that it forgets are counted (`ListCleared`; R28, R30, R36, R72, R74, R76, R104, R105, R106, R107, R116,
R123, R124; that the counter of R39 counts them is the model's reading, log entry 33). -/
def Obligations.HelloAttends : Prop :=
  (∀ (p : Port) (src : Addr) (token : BitVec 32) (fresh : Bool) (s : State), LaneOpen p s → (s.port p).present = false →
    ∃ u, exec (.hello p src token fresh) s = .next (presentAll (judgeVerdicts s u)) ∧
      OnlyChanges (.port p :: .queues p :: (if fresh then streamParts else noticeParts)) s u ∧
      Joined (replyFrame p src token 0x01#8 .done .empty u)
        { noted p src s with
          present := true, window := (s.work.attend.get p).map (fun n => s.clock + ms n), subs := if fresh then [] else (s.port p).subs }
        (u.port p) ∧
      (fresh = true → TableSound s → ListsSound s → ListsAgree s → ListCleared p s u ∧ (CountsAgree s → CountsAgree u) ∧
        ∀ q, q ≠ p → StreamsTold (InListOrder p s) q s u) ∧
      u.notice p = s.notice p ∧ OnlyCauses [.peer, .streamQuiet, .streamSingle] s u ∧
      CauseRaised .peer (.peer p true .hello) (fun q => q ≠ p ∧ (s.port q).present = true) s u) ∧
  (∀ (p : Port) (src : Addr) (token : BitVec 32) (fresh : Bool) (s : State), Commands p s →
    ∃ u, exec (.hello p src token fresh) s = .next (presentAll (judgeVerdicts s u)) ∧
      OnlyChanges (.port p :: .queues p :: (if fresh then streamParts else [])) s u ∧
      Joined (replyFrame p src token 0x01#8 .done .empty u)
        { attended p src s with subs := if fresh then [] else (s.port p).subs } (u.port p) ∧
      (fresh = true → TableSound s → ListsSound s → ListsAgree s → ListCleared p s u ∧ (CountsAgree s → CountsAgree u) ∧
        ∀ q, q ≠ p → StreamsTold (InListOrder p s) q s u) ∧
      u.notice p = s.notice p ∧ OnlyCauses [.streamQuiet, .streamSingle] s u) ∧
  (∀ (p : Port) (src : Addr) (token : BitVec 32) (s : State), Commands p s →
    ∃ u, exec (.keep p src token) s = .next (presentAll u) ∧ OnlyChanges [.port p, .queues p] s u ∧
      Answered p src token 0x02#8 .done .empty s u)

/-- RESTART_PORT takes a PRESENT port through ABSENT and back: queues, lane and transmission gone and counted, the list empty and the port out of
every entry that it subscribed to, its proposals removed, its COMMAND bursts ended OWNER_LOST with CHANNEL raised for each, its notice in service
returned to pending, the window started anew, PEER raised twice at each other PRESENT port with the last subject PRESENT, the other subscribers of its
streams told what becomes of them, and the REPLY DONE on the emptied link. The entries that the clearing unpins join the recency list by age in the
order of the port's list, and those that it forgets are counted (`ListCleared`; R28, R30, R36, R72, R74, R76, R87, R109, R116, R124, R144, R145, R161,
R173; that the counter of R39 counts them is the model's reading, log entry 33; that a POOL raised by the port's own flush does not reach it is the
model's reading, log entry 16; the record `sent` is the model's own, log entry 9). -/
def Obligations.RestartPortStartsAnew : Prop :=
  ∀ (p : Port) (src : Addr) (token : BitVec 32) (s : State), Commands p s →
    ∃ u, exec (.restartPort p src token) s = .next (presentAll (judgeVerdicts s u)) ∧
      OnlyChanges (absentParts p ++ streamParts) s u ∧
      ((u.port p).present = true ∧ (u.port p).linkUp = true ∧ (u.port p).window = (s.work.attend.get p).map (fun n => s.clock + ms n) ∧
        (u.port p).urgent = [] ∧ (u.port p).routine = [] ∧ (u.port p).lane = [] ∧ (u.port p).subs = [] ∧ (u.port p).seqs = (s.port p).seqs ∧
        (u.port p).lastSrc = src ∧
        (u.port p).tx = some ⟨.lane, none, withCheck (replyFrame p src token 0x03#8 .done .empty u).data⟩ ∧
        (u.port p).ctr = { (s.port p).ctr with
          controlIn := satInc (s.port p).ctr.controlIn,
          lost := if (s.port p).tx.isSome then satInc (s.port p).ctr.lost else (s.port p).ctr.lost,
          flushed := satAdd (s.port p).ctr.flushed ((s.port p).urgent.length + (s.port p).routine.length),
          laneFlushed := satAdd (s.port p).ctr.laneFlushed (s.port p).lane.length }) ∧
      ChannelsEnd p s u ∧ NoticeReturned p s u ∧
      (u.port p).sent = (match (s.port p).tx with | some t => some ⟨.cutOff, t.wire⟩ | none => (s.port p).sent) ∧
      u.settings.proposals = s.settings.proposals.filter (fun q => decide (q.port ≠ p)) ∧
      (TableSound s → ListsSound s → ListsAgree s → ListCleared p s u ∧ (CountsAgree s → CountsAgree u) ∧
        ∀ q, q ≠ p → StreamsTold (InListOrder p s) q s u) ∧
      ∀ q, q ≠ p → (PoolSound s → PoolToldAt q s u) ∧ (u.notice q).slot = (s.notice q).slot ∧
        ((s.port q).present = true →
          (u.notice q).of .peer = ((s.notice q).of .peer).after [.peer p false .restart, .peer p true .restart]) ∧
        ((s.port q).present = false → (u.notice q).of .peer = (s.notice q).of .peer) ∧
        ∀ d, d ≠ .peer → d ≠ .pool → d ≠ .streamQuiet → d ≠ .streamSingle → (u.notice q).of d = (s.notice q).of d

/-! ## Subscriptions -/

/-- A SUBSCRIBE or UNSUBSCRIBE that is refused changes no list and no entry, and its REPLY carries the number of members: BAD_VALUE for an origin or
class that no subscription has, LIMIT for a new key at a full list, UNKNOWN_KEY for a key that the list does not hold (R118, R122, R127). -/
def Obligations.SubscriptionRefused : Prop :=
  ∀ (p : Port) (src : Addr) (token : BitVec 32) (w : Word16) (hold : BitVec 32) (s : State), Commands p s →
    let bad : Prop := (keyOrigin w).toNat = 0 ∨ 4000 < (keyOrigin w).toNat ∨ keyClass w = none
    let n := (s.port p).subs.length
    (bad ∨ keyClass w = some .general →
      ∃ u, exec (.subscribe p src token w hold) s = .next (presentAll u) ∧ OnlyChanges [.port p, .queues p] s u ∧
        Answered p src token 0x04#8 .badValue (.subscribe none n) s u) ∧
    (∀ k : Key, NamesKey w k → k.cls ≠ .general → (∀ m ∈ (s.port p).subs, m.key ≠ k) → 96 ≤ n →
      ∃ u, exec (.subscribe p src token w hold) s = .next (presentAll u) ∧ OnlyChanges [.port p, .queues p] s u ∧
        Answered p src token 0x04#8 .limit (.subscribe none n) s u) ∧
    (bad →
      ∃ u, exec (.unsubscribe p src token w) s = .next (presentAll u) ∧ OnlyChanges [.port p, .queues p] s u ∧
        Answered p src token 0x05#8 .badValue (.unsubscribe none n) s u) ∧
    (∀ k : Key, NamesKey w k → (∀ m ∈ (s.port p).subs, m.key ≠ k) →
      ∃ u, exec (.unsubscribe p src token w) s = .next (presentAll u) ∧ OnlyChanges [.port p, .queues p] s u ∧
        Answered p src token 0x05#8 .unknownKey (.unsubscribe none n) s u)

/-- A SUBSCRIBE for a key that neither the port's list nor the table holds allocates the lowest VACANT entry, or in a full table the evicted head of
the recency list, OPEN with the port as its one subscriber and the hold time clamped to 2 to 65535 ms as its supervision time, counted as a
subscription allocation (and the eviction as an eviction), adds the key at the tail of the list, and says so in its REPLY; the line and spare bits of
the key word are ignored, here and in the statements that follow (R31, R33, R34, R118, R119, R120, R127, R177). -/
def Obligations.SubscribeOpens : Prop :=
  ∀ (p : Port) (src : Addr) (token : BitVec 32) (w : Word16) (k : Key) (hold : BitVec 32) (s : State) (i : EntryId), Commands p s →
    NamesKey w k → k.cls ≠ .general → (∀ m ∈ (s.port p).subs, m.key ≠ k) → (s.port p).subs.length < 96 →
    (∀ j, (s.entry j).key ≠ some k) →
    let T := if hold.toNat < 2 then 2 else if 65535 < hold.toNat then 65535 else hold.toNat
    let opened (u : State) : Prop :=
      exec (.subscribe p src token w hold) s = .next (presentAll u) ∧
      OnlyChanges [.port p, .queues p, .entry i, .recency, .tableCtr] s u ∧
      u.entry i =
        { Entry.vacant with
          key := some k, state := .opened, isLocal := (u.entry i).isLocal, subs := PerPort.set ⟨false, false, false⟩ p true, sup := some T,
          hearing := if (u.entry i).isLocal then none else some ⟨.unheard, .unheard⟩ } ∧
      ((u.entry i).isLocal = true ↔ ∃ q, s.work.origin.get q = k.origin) ∧
      Joined (replyFrame p src token 0x04#8 .done
          (.subscribe (some (T, .opened, some T, (u.entry i).hearing)) ((s.port p).subs.length + 1)) u)
        { attended p src s with subs := (s.port p).subs ++ [⟨k, T⟩] } (u.port p)
    ((s.entry i).state = .vacant → (∀ j, j < i → (s.entry j).state ≠ .vacant) →
      ∃ u, opened u ∧ u.table.recency = s.table.recency ∧ u.table.ctr = { s.table.ctr with subAllocs := satInc s.table.ctr.subAllocs }) ∧
    ∀ rest, TableSound s → (∀ j, (s.entry j).state ≠ .vacant) → s.table.recency = i :: rest →
      ∃ u, opened u ∧ u.table.recency = rest ∧
        u.table.ctr = { s.table.ctr with subAllocs := satInc s.table.ctr.subAllocs, evictions := satInc s.table.ctr.evictions }

/-- A SUBSCRIBE for a key whose entry stands. An unpinned entry leaves the recency list, loses its forget deadline, takes the clamped hold time as its
supervision time and becomes watched, or timed if it is local, from its stored times. A pinned one gains the port, and its supervision time is the
least hold time of its subscribers, applied to its running deadlines, as it is after a hold time replaced in place. The counts follow, STREAM_QUIET or
STREAM_SINGLE is raised where the entry goes QUIET or single, and the REPLY says how the entry then stands (R27, R64, R71, R72, R73, R74, R76, R118,
R120, R121, R123, R127). -/
def Obligations.SubscribeJoins : Prop :=
  ∀ (p : Port) (src : Addr) (token : BitVec 32) (w : Word16) (k : Key) (hold : BitVec 32) (s : State) (i : EntryId), Commands p s → TableSound s →
    ListsSound s → ListsAgree s → NamesKey w k → k.cls ≠ .general → (s.entry i).key = some k →
    let T := if hold.toNat < 2 then 2 else if 65535 < hold.toNat then 65535 else hold.toNat
    let joined (u : State) (list : List Subscription) : Prop :=
      exec (.subscribe p src token w hold) s = .next (presentAll (judgeVerdicts s u)) ∧
      OnlyChanges (.port p :: .queues p :: .recency :: watchParts i) s u ∧ (CountsAgree s → CountsFollow i s u) ∧ StreamTold i s u ∧
      Joined (replyFrame p src token 0x04#8 .done
          (.subscribe (some (T, (u.entry i).state, (u.entry i).sup, (u.entry i).hearing)) list.length) u)
        { attended p src s with subs := list } (u.port p)
    ((∀ m ∈ (s.port p).subs, m.key ≠ k) → (s.port p).subs.length < 96 → (s.entry i).pinned = false →
      ∃ u, joined u ((s.port p).subs ++ [⟨k, T⟩]) ∧ PinnedAs p s.clock T (s.entry i) (u.entry i) ∧
        u.table.recency = s.table.recency.filter (fun j => decide (j ≠ i))) ∧
    ((∀ m ∈ (s.port p).subs, m.key ≠ k) → (s.port p).subs.length < 96 → (s.entry i).pinned = true →
      ∃ u newT, joined u ((s.port p).subs ++ [⟨k, T⟩]) ∧ (u.entry i).subs = (s.entry i).subs.set p true ∧
        LeastHold newT k (u.entry i).subs u ∧ RetimedAs s.clock newT (s.entry i) (u.entry i) ∧ u.table.recency = s.table.recency) ∧
    ((∃ m ∈ (s.port p).subs, m.key = k) →
      ∃ u newT, joined u ((s.port p).subs.map (fun m => if m.key = k then { m with hold := T } else m)) ∧ (u.entry i).subs = (s.entry i).subs ∧
        LeastHold newT k (u.entry i).subs u ∧ RetimedAs s.clock newT (s.entry i) (u.entry i) ∧ u.table.recency = s.table.recency)

/-- An UNSUBSCRIBE of a held key takes it from the list. Where other subscribers remain the entry stays pinned and its supervision time is their least
hold time, applied to its running deadlines, with the notices that follow at the subscribers that remain; the last subscriber's leaving makes an OPEN
or QUIET entry VACANT, and a LIVE one unpinned, without supervision and out of the counts, on the recency list at its place by age with a forget
deadline from its last arrival, or VACANT and counted as forgotten if that is past. The REPLY says how the entry then stands (R28, R30, R35, R36, R72,
R74, R76, R122, R123, R127; that the counter of R39 counts such an entry is the model's reading, log entry 33). -/
def Obligations.UnsubscribeLeaves : Prop :=
  ∀ (p : Port) (src : Addr) (token : BitVec 32) (w : Word16) (k : Key) (s : State) (i : EntryId), Commands p s → TableSound s → ListsSound s →
    ListsAgree s → NamesKey w k → (∃ m ∈ (s.port p).subs, m.key = k) → (s.entry i).key = some k →
    let list := (s.port p).subs.filter (fun m => decide (m.key ≠ k))
    let sole : Prop := ∀ q, q ≠ p → (s.entry i).subs.get q = false
    ∃ u, exec (.unsubscribe p src token w) s = .next (presentAll (judgeVerdicts s u)) ∧
      OnlyChanges (.port p :: .queues p :: .recency :: .tableCtr :: watchParts i) s u ∧ Left p k i s u ∧ (CountsAgree s → CountsFollow i s u) ∧ StreamTold i s u ∧
      Joined (replyFrame p src token 0x05#8 .done (.unsubscribe (some ((u.entry i).state, (u.entry i).sup)) list.length) u)
        { attended p src s with subs := list } (u.port p) ∧
      ((u.entry i).state ≠ .live ∨ ¬ sole → u.table.recency = s.table.recency) ∧
      (∀ t, sole → (u.entry i).state = .live → (s.entry i).lastAny = some t → PlacedByAge i t s s.table.recency u.table.recency) ∧
      ((s.entry i).state = .live → (u.entry i).state = .vacant →
        u.table.ctr = { s.table.ctr with forgets := satInc s.table.ctr.forgets }) ∧
      ((s.entry i).state ≠ .live ∨ (u.entry i).state ≠ .vacant → u.table.ctr = s.table.ctr)

/-! ## Publication channels -/

/-- A channel command for a number outside 0 to 7 is refused BAD_VALUE, and one for a channel that the port does not own NOT_OWNER; a LOAD, REPLACE or
CHAIN whose template is too long or runs past the frame is BAD_FORM. None changes a channel or takes a buffer (R130, R168; that the body for a number
outside 0 to 7 carries the number and no channel's state is the model's choice, log entry 6). -/
def Obligations.ChannelCommandRefused : Prop :=
  ∀ (p : Port) (src : Addr) (token : BitVec 32) (c : Command) (i : Instr) (chan : Byte) (s : State), asInstr p src token c = some i →
    chanNumber c = some chan → Commands p s →
    let ill : Prop := ∃ (len : Word16) (data : List Byte), (1482 < len.toNat ∨ data.length < len.toNat) ∧
      ((∃ a b n, c = .load chan a b n len data) ∨ c = .replace chan len data ∨ ∃ a b n, c = .chain chan a b n len data)
    (ill → ∃ u body, exec i s = .next (presentAll u) ∧ OnlyChanges [.port p, .queues p] s u ∧ Answered p src token c.code .badForm body s u) ∧
    (¬ ill → 8 ≤ chan.toNat → ∃ u, exec i s = .next (presentAll u) ∧ OnlyChanges [.port p, .queues p] s u ∧
      Answered p src token c.code .badValue (.channel chan none) s u) ∧
    (∀ ch : ChanId, ¬ ill → chan = BitVec.ofNat 8 ch.val → s.work.owner.get ch ≠ some p →
      ∃ u, exec i s = .next (presentAll u) ∧ OnlyChanges [.port p, .queues p] s u ∧
        Answered p src token c.code .notOwner (chanReply ch none (s.chan ch)) s u)

/-- LOAD from the owner: refused STATE outside EMPTY and READY, BAD_VALUE for a template under 64 bytes, NO_BUFFER at a free count of 0; else the
template stands in a buffer taken for it, the channel is READY with it and the clamped schedule, and flags, k and send count are kept. A take that
leaves an AMPLE pool with 32 free makes it LOW, with POOL at the PRESENT ports, whose subject has the free count after the step, an old template's
release included (R130, R131, R132, R83, R85, R87). -/
def Obligations.LoadStores : Prop :=
  ∀ (p : Port) (src : Addr) (token : BitVec 32) (c : ChanId) (tmin tmax n len : Word16) (data template : List Byte) (s : State), Commands p s →
    s.work.owner.get c = some p → TemplateIs template len data → PoolSound s →
    let i : Instr := .load p src token (BitVec.ofNat 8 c.val) tmin tmax n len data
    let x := s.chan c
    let sched : Schedule :=
      { tmin := if tmin.toNat < 1 then 1 else if 1000 < tmin.toNat then 1000 else tmin.toNat,
        tmax := if tmax.toNat < 1 then 1 else if 60000 < tmax.toNat then 60000 else tmax.toNat, n := n.toNat }
    (x.state ≠ .empty → x.state ≠ .ready → ∃ u, exec i s = .next (presentAll u) ∧ OnlyChanges [.port p, .queues p] s u ∧
      Answered p src token 0x06#8 .state (chanReply c none x) s u) ∧
    (x.state = .empty ∨ x.state = .ready → template.length < 64 → ∃ u, exec i s = .next (presentAll u) ∧ OnlyChanges [.port p, .queues p] s u ∧
      Answered p src token 0x06#8 .badValue (chanReply c none x) s u) ∧
    (x.state = .empty ∨ x.state = .ready → 64 ≤ template.length → s.pool.free = 0 →
      ∃ u, exec i s = .next (presentAll u) ∧ OnlyChanges [.port p, .queues p, .pool] s u ∧
        u.pool = { s.pool with emptyRefusals := satInc s.pool.emptyRefusals } ∧
        Answered p src token 0x06#8 .noBuffer (chanReply c none x) s u) ∧
    (x.state = .empty ∨ x.state = .ready → 64 ≤ template.length → 1 ≤ s.pool.free → (∀ t, x.cur = some t → (s.pool.bufs.get t.buf).count ≠ 0) →
      ∃ (u : State) (b : BufId), exec i s = .next (presentAll u) ∧ OnlyChanges (.chan c :: .port p :: .queues p :: poolParts) s u ∧
        Takes b template s u ∧ u.pool.bufs.get b = { count := 1, frame := template } ∧
        (∀ t, x.cur = some t → (u.pool.bufs.get t.buf).count = (s.pool.bufs.get t.buf).count - 1) ∧
        u.chan c = { x with cur := some { buf := b, sched := sched }, state := .ready } ∧
        u.pool.free = s.pool.free - 1 + (match x.cur with | some t => if (s.pool.bufs.get t.buf).count = 1 then 1 else 0 | none => 0) ∧
        OnlyCauses [.pool] s u ∧ PoolTold s u ∧ (u.pool.low = true ↔ s.pool.low = true ∨ s.pool.free = 33) ∧
        Answered p src token 0x06#8 .done (chanReply c (some sched) (u.chan c)) s u)

/-- START from the owner that begins no burst: EMPTY fails with NO_TEMPLATE, a flag set with UNCLEARED, a Tmin above Tmax with BAD_SCHEDULE, a type
outside the TRIP set with NO_TEMPLATE, each answered DONE and raised as CHANNEL at the owner; a passed check sets no FAILED, and arms an EDGE channel,
and a LEVEL channel whose line is low; and ARMED, SENDING and STOPPING refuse it with STATE (R141, R142, R144, R153). -/
def Obligations.StartChecked : Prop :=
  ∀ (p : Port) (src : Addr) (token : BitVec 32) (c : ChanId) (s : State), Commands p s → s.work.owner.get c = some p →
    let i : Instr := .start p src token (BitVec.ofNat 8 c.val)
    let x := s.chan c
    let fails (cause : ChanCause) : Prop :=
      ∃ u, exec i s = .next (presentAll u) ∧ OnlyChanges [.chan c, .port p, .queues p, .notice p] s u ∧
        u.chan c = { x with failed := some cause } ∧ RaisedAt .channel (.channel c (some cause)) p s u ∧
        Answered p src token 0x07#8 .done (chanReply c none (u.chan c)) s u
    let clear : Prop := x.state = .ready ∧ x.finished = false ∧ x.failed = none
    let passes (t : Template) : Prop := x.cur = some t ∧ t.sched.tmin ≤ t.sched.tmax ∧ frameType (s.frameOf t.buf) ∈ s.work.tripSet
    (x.state = .empty → fails .noTemplate) ∧
    (x.state = .ready → (x.finished = true ∨ x.failed ≠ none) → fails .uncleared) ∧
    (∀ t, clear → x.cur = some t → t.sched.tmax < t.sched.tmin → fails .badSchedule) ∧
    (∀ t, clear → x.cur = some t → t.sched.tmin ≤ t.sched.tmax → frameType (s.frameOf t.buf) ∉ s.work.tripSet → fails .noTemplate) ∧
    (∀ t n, clear → passes t → (s.work.trigger.get c = .edge n ∨ (s.work.trigger.get c = .level n ∧ (s.input n).filtered = false)) →
      ∃ u, exec i s = .next (presentAll u) ∧ OnlyChanges [.chan c, .port p, .queues p] s u ∧ u.chan c = { x with state := .armed } ∧
        Answered p src token 0x07#8 .done (chanReply c none (u.chan c)) s u) ∧
    (∀ t, clear → passes t → ∃ v, exec i s = .next v ∧ (v.chan c).failed = none) ∧
    (x.state = .armed ∨ x.state = .sending ∨ x.state = .stopping → ∃ u, exec i s = .next (presentAll u) ∧ OnlyChanges [.port p, .queues p] s u ∧
      Answered p src token 0x07#8 .state (chanReply c none x) s u)

/-- A burst begins: START passed at a COMMAND channel, or at a LEVEL channel whose line is high, makes the first send at once with the owner's next
TRIP tag on both urgent queues, untagged while the owner's ORIGIN is 0, with its local arrival and its delivery to the other ports (`SentOut`), and
sets the send time Tmin ahead; a COMMAND burst of one send ends READY and FINISHED, with CHANNEL at the owner (`FirstSendLeaves`) (R23, R90, R111,
R136, R137, R138, R140, R142, R144, R153). -/
def Obligations.StartSends : Prop :=
  ∀ (p : Port) (src : Addr) (token : BitVec 32) (c : ChanId) (s : State) (t : Template), Commands p s → s.work.owner.get c = some p →
    (s.chan c).state = .ready → (s.chan c).finished = false → (s.chan c).failed = none → (s.chan c).cur = some t → (s.chan c).nxt = none →
    t.sched.tmin ≤ t.sched.tmax → frameType (s.frameOf t.buf) ∈ s.work.tripSet →
    (s.work.trigger.get c = .command ∨ ∃ n, s.work.trigger.get c = .level n ∧ (s.input n).filtered = true) →
    ∃ u, exec (.start p src token (BitVec.ofNat 8 c.val)) s = .next (presentAll (judgeVerdicts s u)) ∧ OnlyChanges (chanSendParts c) s u ∧
      SentOut p .trip t.buf (s.frameOf t.buf) s u ∧ FirstSendLeaves c p (s.chan c) t s u ∧ (PoolSound s → PoolTold s u) ∧
      Answered p src token 0x07#8 .done (chanReply c none (u.chan c)) { s with ports := s.ports.set p { s.port p with seqs := (u.port p).seqs } } u

/-- STOP from the owner: SENDING becomes STOPPING with its send time running on; ARMED becomes READY, its next template released, FAILED with STOPPED
and raised; other states refuse it with STATE. CLEAR is taken in every state: it clears FINISHED and FAILED with its cause and nothing else, and
raises nothing (R135, R143, R144). -/
def Obligations.StopAndClear : Prop :=
  ∀ (p : Port) (src : Addr) (token : BitVec 32) (c : ChanId) (s : State), Commands p s → s.work.owner.get c = some p →
    let x := s.chan c
    (x.state = .sending →
      ∃ u, exec (.stop p src token (BitVec.ofNat 8 c.val)) s = .next (presentAll u) ∧ OnlyChanges [.chan c, .port p, .queues p] s u ∧
        u.chan c = { x with state := .stopping } ∧ Answered p src token 0x08#8 .done (chanReply c none (u.chan c)) s u) ∧
    (x.state = .armed →
      ∃ u, exec (.stop p src token (BitVec.ofNat 8 c.val)) s = .next (presentAll u) ∧ OnlyChanges (.chan c :: .port p :: .queues p :: poolParts) s u ∧
        u.chan c = { x with state := .ready, sendTime := none, nxt := none, failed := some .stopped } ∧
        (∀ t, x.nxt = some t → (u.pool.bufs.get t.buf).count = (s.pool.bufs.get t.buf).count - 1) ∧
        OnlyCauses [.channel, .pool] s u ∧ (PoolSound s → PoolTold s u) ∧
        CauseRaised .channel (.channel c (some .stopped)) (fun q => q = p) s u ∧
        Answered p src token 0x08#8 .done (chanReply c none (u.chan c)) s u) ∧
    (x.state = .empty ∨ x.state = .ready ∨ x.state = .stopping →
      ∃ u, exec (.stop p src token (BitVec.ofNat 8 c.val)) s = .next (presentAll u) ∧ OnlyChanges [.port p, .queues p] s u ∧
        Answered p src token 0x08#8 .state (chanReply c none x) s u) ∧
    ∃ u, exec (.clear p src token (BitVec.ofNat 8 c.val)) s = .next (presentAll u) ∧ OnlyChanges [.chan c, .port p, .queues p] s u ∧
      u.chan c = { x with finished := false, failed := none } ∧ Answered p src token 0x0B#8 .done (chanReply c none (u.chan c)) s u

/-- REPLACE from the owner: refused STATE in EMPTY and STOPPING, BAD_VALUE for a template under 64 bytes or, in ARMED and SENDING, of a type outside
the TRIP set, NO_BUFFER at a free count of 0; else in READY and ARMED the new template is current under the schedule in force and the old one is
released, and in SENDING the burst restarts with a send of the new template (`BurstBegins`), which ends a counted burst of one send, with FINISHED at
a COMMAND channel, or passes it on to its next template (R23, R83, R88, R90, R130, R131, R133, R136, R138, R140, R144). -/
def Obligations.ReplaceSwaps : Prop :=
  ∀ (p : Port) (src : Addr) (token : BitVec 32) (c : ChanId) (len : Word16) (data template : List Byte) (s : State), Commands p s →
    s.work.owner.get c = some p → TemplateIs template len data → PoolSound s →
    let i : Instr := .replace p src token (BitVec.ofNat 8 c.val) len data
    let x := s.chan c
    let trip : Prop := frameType template ∈ s.work.tripSet
    (x.state = .empty ∨ x.state = .stopping → ∃ u, exec i s = .next (presentAll u) ∧ OnlyChanges [.port p, .queues p] s u ∧
      Answered p src token 0x09#8 .state (chanReply c none x) s u) ∧
    (x.state ≠ .empty → x.state ≠ .stopping → (template.length < 64 ∨ (x.state ≠ .ready ∧ ¬ trip)) →
      ∃ u, exec i s = .next (presentAll u) ∧ OnlyChanges [.port p, .queues p] s u ∧
        Answered p src token 0x09#8 .badValue (chanReply c none x) s u) ∧
    (x.state ≠ .empty → x.state ≠ .stopping → 64 ≤ template.length → (x.state = .ready ∨ trip) → s.pool.free = 0 →
      ∃ u, exec i s = .next (presentAll u) ∧ OnlyChanges [.port p, .queues p, .pool] s u ∧
        u.pool = { s.pool with emptyRefusals := satInc s.pool.emptyRefusals } ∧
        Answered p src token 0x09#8 .noBuffer (chanReply c none x) s u) ∧
    (∀ t, x.state = .ready ∨ (x.state = .armed ∧ trip) → 64 ≤ template.length → 1 ≤ s.pool.free → x.cur = some t →
      (s.pool.bufs.get t.buf).count ≠ 0 →
      ∃ (u : State) (b : BufId), exec i s = .next (presentAll u) ∧ OnlyChanges (.chan c :: .port p :: .queues p :: poolParts) s u ∧
        Takes b template s u ∧ u.pool.bufs.get b = { count := 1, frame := template } ∧
        (u.pool.bufs.get t.buf).count = (s.pool.bufs.get t.buf).count - 1 ∧ OnlyCauses [.pool] s u ∧ PoolTold s u ∧
        u.chan c = { x with cur := some { buf := b, sched := t.sched } } ∧
        Answered p src token 0x09#8 .done (chanReply c (some t.sched) (u.chan c)) s u) ∧
    (∀ t, x.state = .sending → trip → 64 ≤ template.length → 1 ≤ s.pool.free → x.cur = some t → (s.pool.bufs.get t.buf).count ≠ 0 →
      ∃ (u : State) (b : BufId), exec i s = .next (presentAll (judgeVerdicts s u)) ∧ OnlyChanges (chanSendParts c) s u ∧
        Takes b template s u ∧ PoolTold s u ∧
        BurstBegins c p { x with cur := some { buf := b, sched := t.sched } } { buf := b, sched := t.sched } template s u ∧
        Answered p src token 0x09#8 .done (chanReply c (some t.sched) (u.chan c))
          { s with ports := s.ports.set p { s.port p with seqs := (u.port p).seqs } } u)

/-- CHAIN from the owner: taken in SENDING and ARMED under a counted schedule and no LEVEL trigger, else refused STATE; BAD_VALUE for a template under
64 bytes or of a type outside the TRIP set, or for a clamped Tmin above Tmax; NO_BUFFER at a free count of 0; else template and schedule are the next
ones, one held before is released, and the current burst is not disturbed (R131, R134). -/
def Obligations.ChainQueues : Prop :=
  ∀ (p : Port) (src : Addr) (token : BitVec 32) (c : ChanId) (tmin tmax n len : Word16) (data template : List Byte) (s : State), Commands p s →
    s.work.owner.get c = some p → TemplateIs template len data → PoolSound s →
    let i : Instr := .chain p src token (BitVec.ofNat 8 c.val) tmin tmax n len data
    let x := s.chan c
    let sched : Schedule :=
      { tmin := if tmin.toNat < 1 then 1 else if 1000 < tmin.toNat then 1000 else tmin.toNat,
        tmax := if tmax.toNat < 1 then 1 else if 60000 < tmax.toNat then 60000 else tmax.toNat, n := n.toNat }
    let taken : Prop := (x.state = .sending ∨ x.state = .armed) ∧ (∃ t, x.cur = some t ∧ 1 ≤ t.sched.n) ∧ ∀ m, s.work.trigger.get c ≠ .level m
    let good : Prop := 64 ≤ template.length ∧ frameType template ∈ s.work.tripSet ∧ sched.tmin ≤ sched.tmax
    (¬ taken → ∃ u, exec i s = .next (presentAll u) ∧ OnlyChanges [.port p, .queues p] s u ∧
      Answered p src token 0x0A#8 .state (chanReply c none x) s u) ∧
    (taken → ¬ good → ∃ u, exec i s = .next (presentAll u) ∧ OnlyChanges [.port p, .queues p] s u ∧
      Answered p src token 0x0A#8 .badValue (chanReply c none x) s u) ∧
    (taken → good → s.pool.free = 0 → ∃ u, exec i s = .next (presentAll u) ∧ OnlyChanges [.port p, .queues p, .pool] s u ∧
      u.pool = { s.pool with emptyRefusals := satInc s.pool.emptyRefusals } ∧
      Answered p src token 0x0A#8 .noBuffer (chanReply c none x) s u) ∧
    (taken → good → 1 ≤ s.pool.free → (∀ t, x.nxt = some t → (s.pool.bufs.get t.buf).count ≠ 0) →
      ∃ (u : State) (b : BufId), exec i s = .next (presentAll u) ∧ OnlyChanges (.chan c :: .port p :: .queues p :: poolParts) s u ∧
        Takes b template s u ∧ u.pool.bufs.get b = { count := 1, frame := template } ∧
        (∀ t, x.nxt = some t → (u.pool.bufs.get t.buf).count = (s.pool.bufs.get t.buf).count - 1) ∧
        OnlyCauses [.pool] s u ∧ PoolTold s u ∧ u.chan c = { x with nxt := some { buf := b, sched := sched } } ∧
        Answered p src token 0x0A#8 .done (chanReply c (some sched) (u.chan c)) s u)

/-- A send time's expiry: a SENDING channel sends (`SentOut`), and its next send time is the due one plus the gap min(Tmin × 2^k, Tmax), k stepping
until the gap reaches Tmax; the N-th send of a COMMAND burst ends it READY and FINISHED, of an EDGE burst ARMED, and one with a next template passes
to it with its first send in the same step, which ends the chained burst too if that is of one send (`ChainsOn`); a LEVEL channel whose line is low is
ARMED without a send; a STOPPING channel goes READY with FAILED STOPPED and no send (R23, R90, R137, R138, R139, R140, R144, R153; that a send time
counts as reached at most half a period behind the clock is the model's reading, log entry 25). -/
def Obligations.SendTimeExpires : Prop :=
  (∀ (c : ChanId) (s : State) (d : Time) (p : Port) (t : Template), (s.chan c).sendTime = some d → (s.clock - d).toNat < 2147483648 →
      s.work.owner.get c = some p → (s.chan c).cur = some t →
      let x := s.chan c
      let counted : Prop := (∀ n, s.work.trigger.get c ≠ .level n) ∧ 1 ≤ t.sched.n
      let sends : Prop := x.state = .sending ∧ ∀ n, s.work.trigger.get c = .level n → (s.input n).filtered = true
      let count := min (x.sendCount + 1) 65535
      (sends → ¬ (counted ∧ count = t.sched.n) →
        ∃ u, exec (.sendTimeExpiry c) s = .next (presentAll (judgeVerdicts s u)) ∧ OnlyChanges (chanSendParts c) s u ∧
          SentOut p .trip t.buf (s.frameOf t.buf) s u ∧ (PoolSound s → PoolTold s u) ∧
          (∀ q, (u.notice q).of .channel = (s.notice q).of .channel) ∧
          u.chan c = { x with
            sendCount := count, sends := satInc x.sends, sendTime := some (d + ms (min (t.sched.tmin * 2 ^ x.k) t.sched.tmax)),
            k := if t.sched.tmin * 2 ^ x.k < t.sched.tmax then x.k + 1 else x.k }) ∧
      (sends → counted → count = t.sched.n → x.nxt = none → s.work.trigger.get c = .command →
        ∃ u, exec (.sendTimeExpiry c) s = .next (presentAll (judgeVerdicts s u)) ∧ OnlyChanges (chanSendParts c) s u ∧
          SentOut p .trip t.buf (s.frameOf t.buf) s u ∧ (PoolSound s → PoolTold s u) ∧
          CauseRaised .channel (.channel c none) (fun q => q = p) s u ∧
          u.chan c = { x with state := .ready, sendCount := count, sends := satInc x.sends, sendTime := none, finished := true }) ∧
      (∀ n, sends → counted → count = t.sched.n → x.nxt = none → s.work.trigger.get c = .edge n →
        ∃ u, exec (.sendTimeExpiry c) s = .next (presentAll (judgeVerdicts s u)) ∧ OnlyChanges (chanSendParts c) s u ∧
          SentOut p .trip t.buf (s.frameOf t.buf) s u ∧ (PoolSound s → PoolTold s u) ∧
          (∀ q, (u.notice q).of .channel = (s.notice q).of .channel) ∧
          u.chan c = { x with state := .armed, sendCount := count, sends := satInc x.sends, sendTime := none, bursts := satInc x.bursts }) ∧
      (∀ n, x.state = .sending → s.work.trigger.get c = .level n → (s.input n).filtered = false →
        ∃ u, exec (.sendTimeExpiry c) s = .next (presentAll u) ∧ OnlyChanges [.chan c] s u ∧
          u.chan c = { x with state := .armed, sendTime := none, bursts := satInc x.bursts }) ∧
      (x.state = .stopping →
        ∃ u, exec (.sendTimeExpiry c) s = .next (presentAll u) ∧ OnlyChanges (.chan c :: poolParts) s u ∧
          u.chan c = { x with state := .ready, sendTime := none, nxt := none, failed := some .stopped } ∧
          (∀ y, x.nxt = some y → (u.pool.bufs.get y.buf).count = (s.pool.bufs.get y.buf).count - 1) ∧
          OnlyCauses [.channel, .pool] s u ∧ (PoolSound s → PoolTold s u) ∧
          CauseRaised .channel (.channel c (some .stopped)) (fun q => q = p) s u)) ∧
  (∀ (c : ChanId) (s : State) (d : Time) (p : Port) (t y : Template), (s.chan c).sendTime = some d → (s.clock - d).toNat < 2147483648 →
      s.work.owner.get c = some p → (s.chan c).cur = some t → (s.chan c).nxt = some y → (s.chan c).state = .sending →
      (∀ n, s.work.trigger.get c ≠ .level n) → 1 ≤ t.sched.n → min ((s.chan c).sendCount + 1) 65535 = t.sched.n → BuffersHeld s →
      ∃ u, exec (.sendTimeExpiry c) s = .next (presentAll (judgeVerdicts s u)) ∧ OnlyChanges (chanSendParts c) s u ∧ (PoolSound s → PoolTold s u) ∧
        ChainsOn c p (s.chan c) t y (s.frameOf t.buf) s u)

/-! ## Trip input lines -/

/-- A contact change outside STARTING: with a pending change the line has gone back, and it is removed and counted cancelled; else, for a raw level
that leaves the filtered one, a pending change is set FILTER(n) ahead. During STARTING the raw level alone is set. At a pending change's expiry the
filtered level takes the raw one, counted by its edge. A falling edge acts on no channel; a rising one reaches every channel whose TRIGGER names the
line: an EDGE channel that is ARMED or SENDING, and a LEVEL channel that is ARMED, begins its burst with a send in the step, which ends an EDGE burst
of one send or passes it on to its next template, one channel after another in an order that the manual does not give, and every other channel is
unchanged (`RisingEdge`; R90, R136, R138, R140, R149, R150, R151, R152, R153; that a pending change counts as reached at most half a period behind the
clock is the model's reading, log entry 25). -/
def Obligations.InputsFiltered : Prop :=
  (∀ (n : InputId) (level : Bool) (s : State), level ≠ (s.input n).raw →
    (s.starting = true →
      ∃ u, exec (.rawLevelChange n level) s = .next u ∧ OnlyChanges [.input n] s u ∧ u.input n = { s.input n with raw := level }) ∧
    (s.starting = false → (s.input n).change.isSome = true →
      ∃ u, exec (.rawLevelChange n level) s = .next (presentAll u) ∧ OnlyChanges [.input n] s u ∧
        u.input n = { s.input n with raw := level, change := none, cancelled := satInc (s.input n).cancelled }) ∧
    (s.starting = false → (s.input n).change = none → level ≠ (s.input n).filtered → 1 ≤ s.work.filter.get n →
      ∃ u, exec (.rawLevelChange n level) s = .next (presentAll u) ∧ OnlyChanges [.input n] s u ∧
        u.input n = { s.input n with raw := level, change := some (s.clock + ms (s.work.filter.get n)) }) ∧
    (s.starting = false → (s.input n).change = none → level ≠ (s.input n).filtered → s.work.filter.get n = 0 → level = false →
      ∃ u, exec (.rawLevelChange n level) s = .next (presentAll u) ∧ OnlyChanges [.input n] s u ∧
        u.input n = { s.input n with raw := false, filtered := false, falling := satInc (s.input n).falling }) ∧
    (s.starting = false → (s.input n).change = none → level ≠ (s.input n).filtered → s.work.filter.get n = 0 → level = true →
      ∃ u, exec (.rawLevelChange n level) s = .next (presentAll (judgeVerdicts s u)) ∧ OnlyChanges (inputParts n) s u ∧ (PoolSound s → PoolTold s u) ∧
        RisingEdge n { s.input n with raw := true, filtered := true, rising := satInc (s.input n).rising } s u)) ∧
  (∀ (n : InputId) (s : State) (d : Time), (s.input n).change = some d → (s.clock - d).toNat < 2147483648 →
    ((s.input n).raw = false →
      ∃ u, exec (.pendingChangeExpiry n) s = .next (presentAll u) ∧ OnlyChanges [.input n] s u ∧
        u.input n = { s.input n with filtered := false, change := none, falling := satInc (s.input n).falling }) ∧
    ((s.input n).raw = true →
      ∃ u, exec (.pendingChangeExpiry n) s = .next (presentAll (judgeVerdicts s u)) ∧ OnlyChanges (inputParts n) s u ∧ (PoolSound s → PoolTold s u) ∧
        RisingEdge n { s.input n with filtered := true, change := none, rising := satInc (s.input n).rising } s u))

/-! ## Shared settings -/

/-- The end of the image read: STARTING ends. A memory that gives no answer, or whose counted records or CRC run past its end, is UNREADABLE, one
whose CRC does not match BAD_CHECK, and each leaves the working copy at its defaults; else the records are applied in stored order (`RecordsApplied`),
and the status is GOOD, or BAD_ITEM with the number of refused records and the code and index of the first. IMAGE_FAULT is raised at all three ports
for every status but GOOD, the settle timer of a SETTLING line starts, and a high contact sets its pending change, or makes its edge at once where
FILTER(n) is 0 (R10, R151, R156, R157, R158; that a memory too short for its count is UNREADABLE, that a refused record of a known item puts the item
at its default even where an earlier record had set it, that a good record after a refused one of the same item stands, that the first refused item is
given by the code and index of its record, and which RESTART records are refused, are the model's reading, log entry 12). -/
def Obligations.ImageReadEnds : Prop :=
  ∀ (memory : Option (List Byte)) (s : State), s.starting = true → (∀ c, (s.chan c).state = .empty) →
    ∃ u, exec (.imageReadCompletion memory) s = .next (presentAll (judgeVerdicts s u)) ∧
      OnlyChanges ([.starting, .work, .image, .choices, .line .a, .line .b] ++ (List.finRange Config.nInputs).map Part.input ++ noticeParts) s u ∧
      u.starting = false ∧ u.startEnd = s.clock ∧
      ((∀ m rs crc, memory = some m → ¬ ImageHolds m rs crc) → u.settings.status = .unreadable ∧ u.settings.bad = none ∧ u.work = Settings.default) ∧
      (∀ m rs crc, memory = some m → ImageHolds m rs crc →
        (crc ≠ crc16 (imageBytes rs) → u.settings.status = .badCheck ∧ u.settings.bad = none ∧ u.work = Settings.default) ∧
        (crc = crc16 (imageBytes rs) → ∃ bad, RecordsApplied Settings.default rs u.work bad ∧
          u.settings.status = (if bad = [] then .good else .badItem) ∧
          u.settings.bad = (match bad with | x :: _ => some { count := bad.length, code := x.code, index := x.index } | [] => none))) ∧
      (u.settings.status = .good → ∀ p, u.notice p = s.notice p) ∧
      (u.settings.status ≠ .good → RaisedExactly .imageFault (.imageFault u.settings.status u.settings.bad) (fun _ => True) s u) ∧
      (∀ l, ((s.line l).link ≠ .settling → u.line l = s.line l) ∧
        ((s.line l).link = .settling → u.line l = (if u.work.settle = 0 then { s.line l with link := .up, settleStart := none }
          else { s.line l with settleStart := some s.clock }))) ∧
      ∀ n, ((s.input n).raw = false → u.input n = s.input n) ∧
        ((s.input n).raw = true → 1 ≤ u.work.filter.get n →
          u.input n = { s.input n with change := some (s.clock + ms (u.work.filter.get n)) }) ∧
        ((s.input n).raw = true → u.work.filter.get n = 0 →
          u.input n = { s.input n with filtered := true, change := none, rising := satInc (s.input n).rising })

/-- A PROPOSE that commits nothing: BAD_FORM where the value runs past the frame or has not its item's length; BAD_VALUE for an unknown item or index
and for a value that its item does not take, DUPLICATE for an ORIGIN that another port holds (`TakenAs` is the table of the items); else it renews the
port's own proposal, joins the list, is refused BUSY at a list of eight, or is in conflict with another port's proposal, which throws both away with
CONCURRENCE at every PRESENT port (R156, R159, R163, R168; that a refusal's body has no result, and a judged value only where the value was judged, is
the model's reading, log entry 19; that the subject has the standing proposal's value and port before those of the PROPOSE is the model's reading too,
log entry 17). -/
def Obligations.ProposeAnswered : Prop :=
  ∀ (p : Port) (src : Addr) (token : BitVec 32) (code index : Byte) (len : Word16) (data : List Byte) (s : State), Commands p s →
    let i : Instr := .propose p src token code index len data
    let list := s.settings.proposals
    let ends := s.clock + ms 2000
    let refused (o : RepOutcome) : Prop := ∃ u, exec i s = .next (presentAll u) ∧ OnlyChanges [.port p, .queues p] s u ∧
      Answered p src token 0x0C#8 o (.propose none none list.length none) s u
    ((∀ value, ¬ ValueIs value code len data) → refused .badForm) ∧
    (∀ value, ValueIs value code len data → (∀ item, ¬ NamesItem code index item) → refused .badValue) ∧
    (∀ value item, ValueIs value code len data → NamesItem code index item → DuplicateOrigin s.work value item → refused .duplicate) ∧
    (∀ value item, ValueIs value code len data → NamesItem code index item → (∀ v : Setting, v.item = item → ¬ TakenAs s.work value v) →
      ¬ DuplicateOrigin s.work value item → refused .badValue) ∧
    ∀ value v, ValueIs value code len data → NamesItem code index v.item → TakenAs s.work value v →
      (∀ q, Stands q v.item s → q.port = p →
        ∃ u, exec i s = .next (presentAll u) ∧ OnlyChanges [.port p, .queues p, .proposals] s u ∧
          u.settings.proposals = list.map (fun r => if r.setting.item = v.item then { r with setting := v, expiry := ends } else r) ∧
          Answered p src token 0x0C#8 .done (.propose (some .standing) (some v) list.length (some ends)) s u) ∧
      ((∀ q, ¬ Stands q v.item s) → list.length < 8 →
        ∃ u, exec i s = .next (presentAll u) ∧ OnlyChanges [.port p, .queues p, .proposals] s u ∧
          u.settings.proposals = list ++ [{ port := p, setting := v, expiry := ends }] ∧
          Answered p src token 0x0C#8 .done (.propose (some .standing) (some v) (list.length + 1) (some ends)) s u) ∧
      ((∀ q, ¬ Stands q v.item s) → 8 ≤ list.length →
        ∃ u, exec i s = .next (presentAll u) ∧ OnlyChanges [.port p, .queues p, .figures] s u ∧
          u.settings.fig = { s.settings.fig with busy := satInc s.settings.fig.busy } ∧
          Answered p src token 0x0C#8 .busy (.propose none (some v) list.length none) s u) ∧
      (∀ q, Stands q v.item s → q.port ≠ p → q.setting ≠ v →
        ∃ u, exec i s = .next (presentAll u) ∧ OnlyChanges (.port p :: .queues p :: .proposals :: .figures :: noticeParts) s u ∧
          u.settings.proposals = list.filter (fun r => decide (r.setting.item ≠ v.item)) ∧
          u.settings.fig = { s.settings.fig with conflicts := satInc s.settings.fig.conflicts } ∧
          RaisedExactly .concurrence (.concurrence v.item .conflict [q.setting, v] [q.port, p] u.settings.fig)
            (fun r => (s.port r).present = true) s u ∧
          Answered p src token 0x0C#8 .done (.propose (some .conflict) (some v) u.settings.proposals.length none) s u)

/-- A PROPOSE that matches another port's standing proposal commits it: the proposal is gone, the item has its value, CONCURRENCE is raised at every
PRESENT port and the commit counted. A commit of ORIGIN(r) resets the sequence counters of port r, which no other commit does, and moves the local
mark: entries of the new origin give up hearings for a local deadline, pinned ones of the old origin become watched by their stored times, the counts
follow, and STREAM_QUIET or STREAM_SINGLE is raised for each entry that goes QUIET or single, in increasing entry number. One of OWNER(c) or
TRIGGER(c) empties the channel with FAILED RECONFIGURED, and POOL follows the released buffers; of SETTLE ends a settle timer that is then past; of
FORGET recomputes every forget deadline, and an entry whose deadline is then past is VACANT, off the recency list and counted as forgotten; of any
other item but RESTART, nothing else (R11, R25, R36, R37, R71, R73, R74, R87, R111, R114, R146, R159, R162, R164; that a commit of ORIGIN with the
value in force moves no local mark is the model's reading, log entry 13, and so is that the subject has the proposer's port before that of the
PROPOSE, log entry 17, and that the counter of R39 counts the entries that a commit of FORGET forgets, log entry 33). -/
def Obligations.CommitActs : Prop :=
  ∀ (p : Port) (src : Addr) (token : BitVec 32) (code index : Byte) (len : Word16) (data value : List Byte) (v : Setting) (q : Proposal) (s : State),
    Commands p s → ValueIs value code len data → NamesItem code index v.item → TakenAs s.work value v →
    Stands q v.item s → q.port ≠ p → q.setting = v → v ≠ .restart →
    ∃ u, exec (.propose p src token code index len data) s = .next (presentAll (judgeVerdicts s u)) ∧
      u.work = s.work.apply v ∧
      u.settings.proposals = s.settings.proposals.filter (fun r => decide (r.setting.item ≠ v.item)) ∧
      u.settings.fig = { s.settings.fig with commits := satInc s.settings.fig.commits } ∧
      CauseRaised .concurrence (.concurrence v.item .committed [v] [q.port, p] u.settings.fig) (fun r => (s.port r).present = true) s u ∧
      Joined (replyFrame p src token 0x0C#8 .done (.propose (some .committed) (some v) u.settings.proposals.length none) u)
        { attended p src s with seqs := if v.item = .origin p then ⟨0, 0, 0⟩ else (s.port p).seqs } (u.port p) ∧
      (∀ r o, v = .origin r o →
        OnlyChanges (.work :: .proposals :: .figures :: .queues p :: .port p :: .port r :: .sup :: entryParts ++ noticeParts) s u ∧
        OnlyCauses [.concurrence, .streamQuiet, .streamSingle] s u ∧ (r ≠ p → u.port r = { s.port r with seqs := ⟨0, 0, 0⟩ }) ∧
        (TableSound s → CountsAgree s → CountsAgree u ∧ ∀ x, StreamsTold InNumberOrder x s u) ∧
        ∀ j k, (s.entry j).key = some k →
          (o ≠ s.work.origin.get r → o ≠ 0 → k.origin = o → GainsMark s.clock (s.entry j) (u.entry j)) ∧
          (o ≠ s.work.origin.get r → s.work.origin.get r ≠ 0 → k.origin = s.work.origin.get r → LosesMark s.clock (s.entry j) (u.entry j)) ∧
          (o = s.work.origin.get r ∨ (k.origin ≠ o ∧ k.origin ≠ s.work.origin.get r) → u.entry j = s.entry j)) ∧
      (∀ c, ((∃ w, v = .owner c w) ∨ ∃ w, v = .trigger c w) →
        OnlyChanges (.work :: .proposals :: .figures :: .queues p :: .port p :: .chan c :: poolParts) s u ∧
        OnlyCauses [.concurrence, .channel, .pool] s u ∧ (PoolSound s → PoolTold s u) ∧
        u.chan c = { state := .empty, cur := none, nxt := none, k := 0, sendCount := 0, sendTime := none, finished := false,
                     failed := some .reconfigured, chained := 0, bursts := 0, sends := 0 } ∧
        CauseRaised .channel (.channel c (some .reconfigured)) (fun r => s.work.owner.get c = some r ∨ u.work.owner.get c = some r) s u) ∧
      (∀ n, v = .settle n →
        OnlyChanges (.work :: .proposals :: .figures :: .queues p :: .port p :: .line .a :: .line .b :: noticeParts) s u ∧
        OnlyCauses [.concurrence] s u ∧
        ∀ l, (∀ t, (s.line l).link = .settling → (s.line l).settleStart = some t → n * 1000 ≤ (s.clock - t).toNat →
            u.line l = { s.line l with link := .up, settleStart := none }) ∧
          (((s.line l).link ≠ .settling ∨ (∀ t, (s.line l).settleStart = some t → (s.clock - t).toNat < n * 1000)) → u.line l = s.line l)) ∧
      (∀ n, v = .forget n →
        OnlyChanges (.work :: .proposals :: .figures :: .queues p :: .port p :: .recency :: .tableCtr :: entryParts ++ noticeParts) s u ∧
        OnlyCauses [.concurrence] s u ∧
        (TableSound s → u.table.recency = s.table.recency.filter (fun j => decide ((u.entry j).state = .live)) ∧
          u.table.ctr = { s.table.ctr with
            forgets := satAdd s.table.ctr.forgets (s.table.recency.countP (fun j => decide ((u.entry j).state = .vacant))) }) ∧
        ∀ j, (∀ d t, (s.entry j).forgetDl = some d → (s.entry j).lastAny = some t →
            u.entry j = (if n * 1000 ≤ (s.clock - t).toNat then Entry.vacant else { s.entry j with forgetDl := some (t + ms n) })) ∧
          ((s.entry j).forgetDl = none → u.entry j = s.entry j)) ∧
      ((∃ r a, v = .address r a) ∨ (∃ r a, v = .attend r a) ∨ (∃ t, v = .tagType t) ∨ (∃ t, v = .controlType t) ∨ (∃ a b, v = .classMap a b) ∨
          (∃ n m, v = .filter n m) →
        OnlyChanges (.work :: .proposals :: .figures :: .queues p :: .port p :: noticeParts) s u ∧ OnlyCauses [.concurrence] s u)

/-- A commit of RESTART is a bay restart: every block returns to its power-on values, but the link states and the contacts' levels are kept, the part
is STARTING, a transmission under way ends with an invalid frame check, and neither CONCURRENCE nor a REPLY comes of it (R19, R110, R151, R162, R166;
the record `sent` of that ending is the model's own, log entry 9). -/
def Obligations.RestartCommits : Prop :=
  ∀ (p : Port) (src : Addr) (token : BitVec 32) (data : List Byte) (q : Proposal) (s : State), Commands p s → Stands q .restart s → q.port ≠ p →
    ∃ u, exec (.propose p src token 0x0C#8 0 0 data) s = .next u ∧ u.pending = s.pending ∧ u.clock = 0 ∧ u.starting = true ∧
      u.work = Settings.default ∧ u.settings.proposals = [] ∧ u.settings.fig = ⟨0, 0, 0, 0⟩ ∧
      (∀ l, u.line l = { link := (s.line l).link, settleStart := none, urgent := [], routine := [], tx := none, ctr := LineCounters.zero,
                         sent := (match (s.line l).tx with | some t => some ⟨.invalidCheck, t.wire⟩ | none => (s.line l).sent) }) ∧
      (∀ r, u.port r = { ClientPort.fresh (s.port r).linkUp
          (match (s.port r).tx with | some t => some ⟨.invalidCheck, t.wire⟩ | none => (s.port r).sent) with present := false }) ∧
      (∀ r, u.notice r = NoticeUnit.fresh) ∧ (∀ i, u.entry i = Entry.vacant) ∧ u.table.recency = [] ∧ u.table.ctr = ⟨0, 0, 0, 0⟩ ∧
      u.sup = ⟨⟨0, 0⟩, 0⟩ ∧ u.pool = Pool.fresh ∧ (∀ c, u.chan c = Channel.fresh) ∧
      ∀ n, u.input n = { raw := (s.input n).raw, filtered := false, change := none, rising := 0, falling := 0, cancelled := 0 }

/-- A proposal whose window has ended lapses, counted, with CONCURRENCE at its proposer alone; WITHDRAW removes the port's own proposal without
CONCURRENCE, is answered STATE where the port has none, and BAD_VALUE for an unknown item or index (R160, R161, R163; that an expiry counts as reached
at most half a period behind the clock is the model's reading, log entry 25). -/
def Obligations.ProposalsEnd : Prop :=
  (∀ (item : Item) (q : Proposal) (s : State), Stands q item s → (s.clock - q.expiry).toNat < 2147483648 →
    ∃ u, exec (.proposalExpiry item) s = .next (presentAll u) ∧ OnlyChanges [.proposals, .figures, .notice q.port] s u ∧
      u.settings.proposals = s.settings.proposals.filter (fun r => decide (r.setting.item ≠ item)) ∧
      u.settings.fig = { s.settings.fig with lapses := satInc s.settings.fig.lapses } ∧
      RaisedAt .concurrence (.concurrence item .lapsed [q.setting] [] u.settings.fig) q.port s u) ∧
  (∀ (p : Port) (src : Addr) (token : BitVec 32) (code index : Byte) (s : State), Commands p s →
    ((∀ item, ¬ NamesItem code index item) →
      ∃ u, exec (.withdraw p src token code index) s = .next (presentAll u) ∧ OnlyChanges [.port p, .queues p] s u ∧
        Answered p src token 0x0D#8 .badValue .empty s u) ∧
    (∀ item q, NamesItem code index item → Stands q item s → q.port = p →
      ∃ u, exec (.withdraw p src token code index) s = .next (presentAll u) ∧ OnlyChanges [.port p, .queues p, .proposals] s u ∧
        u.settings.proposals = s.settings.proposals.filter (fun r => decide (r.setting.item ≠ item)) ∧
        Answered p src token 0x0D#8 .done .empty s u) ∧
    (∀ item, NamesItem code index item → (∀ q, Stands q item s → q.port ≠ p) →
      ∃ u, exec (.withdraw p src token code index) s = .next (presentAll u) ∧ OnlyChanges [.port p, .queues p] s u ∧
        Answered p src token 0x0D#8 .state .empty s u))

/-! ## Notices and queries -/

/-- At the end of an event a PRESENT port with an empty slot and room in its lane presents the pending enabled cause of highest priority, once: its
NOTICE, with the Bay Clock, the count and the last subject, joins the lane, the cause is in service with that count, and its mark and count are
cleared. Any other port presents nothing (R171, R178). -/
def Obligations.NoticePresented : Prop :=
  ∀ (p : Port) (s : State), (s.port p).linkUp = true →
    let able : Prop := (s.port p).present = true ∧ (s.notice p).slot = none ∧ (s.port p).lane.length < 16
    let waits (c : Cause) : Prop := ((s.notice p).of c).pending = true ∧ ((s.notice p).of c).enabled = true
    (∀ c, able → waits c → (∀ d, d.idx < c.idx → ¬ waits d) →
      ((presentAll s).notice p).slot = some (c, ((s.notice p).of c).count) ∧
      ((presentAll s).notice p).of c = { (s.notice p).of c with pending := false, count := 0 } ∧
      (∀ d, d ≠ c → ((presentAll s).notice p).of d = (s.notice p).of d) ∧
      Joined { dst := (s.port p).lastSrc, src := s.work.address.get p, type := s.work.controlType,
               content := .notice c s.clock ((s.notice p).of c).count ((s.notice p).of c).subject } (s.port p) ((presentAll s).port p)) ∧
    (¬ able ∨ (∀ c, ¬ waits c) → (presentAll s).notice p = s.notice p ∧ (presentAll s).port p = s.port p) ∧
    OnlyChanges (noticeParts ++ queueParts) s (presentAll s)

/-- ENABLE replaces the port's enable set and leaves pending marks, counts, subjects and the slot; a set that names a code outside the twelve is
refused BAD_VALUE. ACK of no cause, or of the cause in service, empties the slot; of another known cause it is answered STATE, and of a code that
names no cause BAD_VALUE (R172, R174). -/
def Obligations.EnableAndAck : Prop :=
  ∀ (p : Port) (src : Addr) (token : BitVec 32) (causes : Word16) (code : Byte) (s : State), Commands p s →
    (causes.toNat < 4096 →
      ∃ u, exec (.enable p src token causes) s = .next (presentAll u) ∧ OnlyChanges [.port p, .queues p, .notice p] s u ∧
        (u.notice p).slot = (s.notice p).slot ∧
        (∀ c, (u.notice p).of c = { (s.notice p).of c with enabled := causes.getLsbD c.idx.val }) ∧
        Answered p src token 0x0E#8 .done (.enable (Cause.all.filter (fun c => causes.getLsbD c.idx.val))) s u) ∧
    (4096 ≤ causes.toNat →
      ∃ u, exec (.enable p src token causes) s = .next (presentAll u) ∧ OnlyChanges [.port p, .queues p] s u ∧
        Answered p src token 0x0E#8 .badValue .empty s u) ∧
    ((code = 0 ∨ ∃ c k, (s.notice p).slot = some (c, k) ∧ code.toNat = c.idx.val + 1) →
      ∃ u, exec (.ack p src token code) s = .next (presentAll u) ∧ OnlyChanges [.port p, .queues p, .notice p] s u ∧
        u.notice p = { s.notice p with slot := none } ∧ Answered p src token 0x0F#8 .done .empty s u) ∧
    (∀ c : Cause, code.toNat = c.idx.val + 1 → (∀ k, (s.notice p).slot ≠ some (c, k)) →
      ∃ u, exec (.ack p src token code) s = .next (presentAll u) ∧ OnlyChanges [.port p, .queues p] s u ∧
        Answered p src token 0x0F#8 .state .empty s u) ∧
    (12 < code.toNat →
      ∃ u, exec (.ack p src token code) s = .next (presentAll u) ∧ OnlyChanges [.port p, .queues p] s u ∧
        Answered p src token 0x0F#8 .badValue .empty s u)

/-- QUERY answers DONE with the snapshot of its kind, taken after the window restart, and changes nothing else; an unknown kind is BAD_FORM, and an
argument outside its range BAD_VALUE. STREAM gives the entry of the key, or a VACANT one for a key without an entry, with the table's figures; LINE,
PORT, CHANNEL, SETTING, the proposals, the clock and INPUTS give the fields that their rules list (R17, R40, R82, R88, R101, R115, R117, R148, R154,
R167, R175, R176; that an argument of one byte stands at offset 21, and an item's index at 22, is the model's reading, log entry 18; the unit of a
remaining time and the order of the lines and of the channels of a line are the model's choice, log entries 26 and 29). -/
def Obligations.QueryAnswers : Prop :=
  ∀ (p : Port) (src : Addr) (token : BitVec 32) (kind x y : Byte) (s : State), Commands p s →
    let answers (out : RepOutcome) (body : ReplyBody) : Prop :=
      ∃ u, exec (.query p src token kind x y) s = .next (presentAll u) ∧ OnlyChanges [.port p, .queues p] s u ∧
        Answered p src token 0x10#8 out body s u
    let stream (num : Option EntryId) (e : Entry) : Snapshot :=
      .stream num e s.table.ctr (numEntries (fun e => decide (e.state = .vacant)) s) (numEntries Entry.pinned s) s.table.recency.length
    let view (t : Template) : TemplateView :=
      { length := (s.frameOf t.buf).length, dst := frameDst (s.frameOf t.buf), type := frameType (s.frameOf t.buf), sched := t.sched }
    (∀ k i, kind = 1 → NamesKey (be16 x y) k → (s.entry i).key = some k → (∀ j, (s.entry j).key = some k → j = i) → answers .done (.query (stream (some i) (s.entry i)))) ∧
    (∀ k, kind = 1 → NamesKey (be16 x y) k → (∀ i, (s.entry i).key ≠ some k) → answers .done (.query (stream none Entry.vacant))) ∧
    (kind = 1 → ((keyOrigin (be16 x y)).toNat = 0 ∨ 4000 < (keyOrigin (be16 x y)).toNat ∨ keyClass (be16 x y) = none) → answers .badValue .empty) ∧
    (∀ l : Line, kind = 2 → x = (match l with | .a => 0 | .b => 1) →
      answers .done (.query (.line (s.line l).ctr (s.line l).link
        (match (s.line l).link, (s.line l).settleStart with | .settling, some t => some (t + ms s.work.settle - s.clock) | _, _ => none)
        (s.line l).urgent.length (s.line l).routine.length (verdict s l) (s.sup.silent.get l) s.sup.pinnedLive))) ∧
    (kind = 2 → 1 < x.toNat → answers .badValue .empty) ∧
    (∀ q : Port, kind = 3 → x.toNat = portNumber q →
      let z := if q = p then attended p src s else s.port q
      answers .done (.query (.port z.ctr z.present z.linkUp (match z.window with | some t => some (t - s.clock) | none => none) z.seqs
        z.urgent.length z.lane.length z.routine.length s.pool.free s.pool.low s.pool.reserveRefusals s.pool.emptyRefusals s.pool.lowWater z.subs
        (Cause.all.filter (fun c => ((s.notice q).of c).pending)) (Cause.all.filter (fun c => ((s.notice q).of c).enabled))
        (match (s.notice q).slot with | some (c, _) => some c | none => none)))) ∧
    (kind = 3 → (x = 0 ∨ 3 < x.toNat) → answers .badValue .empty) ∧
    (∀ c : ChanId, kind = 4 → x.toNat = c.val →
      answers .done (.query (.channel (s.work.owner.get c) (s.work.trigger.get c) (s.chan c) ((s.chan c).cur.map view) ((s.chan c).nxt.map view)))) ∧
    (kind = 4 → 7 < x.toNat → answers .badValue .empty) ∧
    (∀ item, kind = 5 → NamesItem x y item → answers .done (.query
      (.setting (s.work.valueOf item) s.settings.status s.settings.bad (s.settings.proposals.find? (fun r => decide (r.setting.item = item)))))) ∧
    (kind = 5 → (∀ item, ¬ NamesItem x y item) → answers .badValue .empty) ∧
    (kind = 6 → answers .done (.query (.proposals s.settings.proposals s.settings.fig))) ∧
    (kind = 7 → answers .done (.query (.clock s.clock s.startEnd))) ∧
    (kind = 8 → answers .done (.query (.inputs ((List.finRange Config.nInputs).map (fun n =>
      { line := s.input n, filter := s.work.filter.get n,
        channels := (List.finRange Config.nChannels).filter (fun c =>
          decide (s.work.trigger.get c = .edge n) || decide (s.work.trigger.get c = .level n)) }))))) ∧
    (kind = 0 ∨ 8 < kind.toNat → answers .badForm .empty)
end

