-- ==== Sys2Proof/Laws/State.lean ====
section
/-! SUPPORT. The small lemmas of the state: reading a part after an update, field by field, and reading what was put into a pair, a triple or a vector. -/

namespace Sys2Proof.Machine

open Sys2Proof

/-! ## Pairs, triples, vectors -/

@[simp] theorem PerLine.get_set_same {α : Type} (x : PerLine α) (l : Line) (v : α) : (x.set l v).get l = v := by cases l <;> rfl

@[simp] theorem PerLine.get_set_other {α : Type} (x : PerLine α) (l m : Line) (v : α) (h : m ≠ l) : (x.set l v).get m = x.get m := by
  cases l <;> cases m <;> first | rfl | exact absurd rfl h

@[simp] theorem PerPort.get_set_same {α : Type} (x : PerPort α) (p : Port) (v : α) : (x.set p v).get p = v := by cases p <;> rfl

@[simp] theorem PerPort.get_set_other {α : Type} (x : PerPort α) (p q : Port) (v : α) (h : q ≠ p) : (x.set p v).get q = x.get q := by
  cases p <;> cases q <;> first | rfl | exact absurd rfl h

@[simp] theorem PerClass.get_set_same {α : Type} (x : PerClass α) (c : Cls) (v : α) : (x.set c v).get c = v := by cases c <;> rfl

@[simp] theorem PerClass.get_set_other {α : Type} (x : PerClass α) (c d : Cls) (v : α) (h : d ≠ c) : (x.set c v).get d = x.get d := by
  cases c <;> cases d <;> first | rfl | exact absurd rfl h

@[simp] theorem updAt_get_same {α : Type} {n : Nat} (v : Vector α n) (i : Fin n) (f : α → α) : (updAt v i f).get i = f (v.get i) := by
  simp only [updAt, Vector.get_eq_getElem, Vector.getElem_set_self]

@[simp] theorem updAt_get_other {α : Type} {n : Nat} (v : Vector α n) (i j : Fin n) (f : α → α) (h : j ≠ i) :
    (updAt v i f).get j = v.get j := by
  have hij : i.val ≠ j.val := fun e => h (Fin.ext e.symm)
  simp only [updAt, Vector.get_eq_getElem, Vector.getElem_set_ne _ _ hij]

/-- Reading a vector after one element was replaced, both cases at once. -/
theorem updAt_get {α : Type} {n : Nat} (v : Vector α n) (i j : Fin n) (f : α → α) :
    (updAt v i f).get j = if j = i then f (v.get j) else v.get j := by
  by_cases h : j = i
  · subst h; simp
  · simp [h]

theorem otherLine_ne (l : Line) : otherLine l ≠ l := by cases l <;> decide

theorem line_cases (l m : Line) : m = l ∨ m = otherLine l := by cases l <;> cases m <;> simp [otherLine]

@[simp] theorem mem_allPorts (p : Port) : p ∈ allPorts := by cases p <;> decide

@[simp] theorem mem_allLines (l : Line) : l ∈ allLines := by cases l <;> decide

/-! ## Fields that an update leaves as they were -/

@[simp] theorem modLine_pending (l : Line) (f : LinePort → LinePort) (s : State) : (modLine l f s).pending = s.pending := rfl
@[simp] theorem modLine_choices (l : Line) (f : LinePort → LinePort) (s : State) : (modLine l f s).choices = s.choices := rfl
@[simp] theorem modLine_clock (l : Line) (f : LinePort → LinePort) (s : State) : (modLine l f s).clock = s.clock := rfl
@[simp] theorem modLine_starting (l : Line) (f : LinePort → LinePort) (s : State) : (modLine l f s).starting = s.starting := rfl
@[simp] theorem modLine_startEnd (l : Line) (f : LinePort → LinePort) (s : State) : (modLine l f s).startEnd = s.startEnd := rfl
@[simp] theorem modLine_table (l : Line) (f : LinePort → LinePort) (s : State) : (modLine l f s).table = s.table := rfl
@[simp] theorem modLine_sup (l : Line) (f : LinePort → LinePort) (s : State) : (modLine l f s).sup = s.sup := rfl
@[simp] theorem modLine_pool (l : Line) (f : LinePort → LinePort) (s : State) : (modLine l f s).pool = s.pool := rfl
@[simp] theorem modLine_ports (l : Line) (f : LinePort → LinePort) (s : State) : (modLine l f s).ports = s.ports := rfl
@[simp] theorem modLine_notices (l : Line) (f : LinePort → LinePort) (s : State) : (modLine l f s).notices = s.notices := rfl
@[simp] theorem modLine_chans (l : Line) (f : LinePort → LinePort) (s : State) : (modLine l f s).chans = s.chans := rfl
@[simp] theorem modLine_inputs (l : Line) (f : LinePort → LinePort) (s : State) : (modLine l f s).inputs = s.inputs := rfl
@[simp] theorem modLine_settings (l : Line) (f : LinePort → LinePort) (s : State) : (modLine l f s).settings = s.settings := rfl

@[simp] theorem modPort_pending (p : Port) (f : ClientPort → ClientPort) (s : State) : (modPort p f s).pending = s.pending := rfl
@[simp] theorem modPort_choices (p : Port) (f : ClientPort → ClientPort) (s : State) : (modPort p f s).choices = s.choices := rfl
@[simp] theorem modPort_clock (p : Port) (f : ClientPort → ClientPort) (s : State) : (modPort p f s).clock = s.clock := rfl
@[simp] theorem modPort_starting (p : Port) (f : ClientPort → ClientPort) (s : State) : (modPort p f s).starting = s.starting := rfl
@[simp] theorem modPort_startEnd (p : Port) (f : ClientPort → ClientPort) (s : State) : (modPort p f s).startEnd = s.startEnd := rfl
@[simp] theorem modPort_lines (p : Port) (f : ClientPort → ClientPort) (s : State) : (modPort p f s).lines = s.lines := rfl
@[simp] theorem modPort_table (p : Port) (f : ClientPort → ClientPort) (s : State) : (modPort p f s).table = s.table := rfl
@[simp] theorem modPort_sup (p : Port) (f : ClientPort → ClientPort) (s : State) : (modPort p f s).sup = s.sup := rfl
@[simp] theorem modPort_pool (p : Port) (f : ClientPort → ClientPort) (s : State) : (modPort p f s).pool = s.pool := rfl
@[simp] theorem modPort_notices (p : Port) (f : ClientPort → ClientPort) (s : State) : (modPort p f s).notices = s.notices := rfl
@[simp] theorem modPort_chans (p : Port) (f : ClientPort → ClientPort) (s : State) : (modPort p f s).chans = s.chans := rfl
@[simp] theorem modPort_inputs (p : Port) (f : ClientPort → ClientPort) (s : State) : (modPort p f s).inputs = s.inputs := rfl
@[simp] theorem modPort_settings (p : Port) (f : ClientPort → ClientPort) (s : State) : (modPort p f s).settings = s.settings := rfl

@[simp] theorem modNotice_pending (p : Port) (f : NoticeUnit → NoticeUnit) (s : State) : (modNotice p f s).pending = s.pending := rfl
@[simp] theorem modNotice_choices (p : Port) (f : NoticeUnit → NoticeUnit) (s : State) : (modNotice p f s).choices = s.choices := rfl
@[simp] theorem modNotice_clock (p : Port) (f : NoticeUnit → NoticeUnit) (s : State) : (modNotice p f s).clock = s.clock := rfl
@[simp] theorem modNotice_starting (p : Port) (f : NoticeUnit → NoticeUnit) (s : State) : (modNotice p f s).starting = s.starting := rfl
@[simp] theorem modNotice_startEnd (p : Port) (f : NoticeUnit → NoticeUnit) (s : State) : (modNotice p f s).startEnd = s.startEnd := rfl
@[simp] theorem modNotice_lines (p : Port) (f : NoticeUnit → NoticeUnit) (s : State) : (modNotice p f s).lines = s.lines := rfl
@[simp] theorem modNotice_table (p : Port) (f : NoticeUnit → NoticeUnit) (s : State) : (modNotice p f s).table = s.table := rfl
@[simp] theorem modNotice_sup (p : Port) (f : NoticeUnit → NoticeUnit) (s : State) : (modNotice p f s).sup = s.sup := rfl
@[simp] theorem modNotice_pool (p : Port) (f : NoticeUnit → NoticeUnit) (s : State) : (modNotice p f s).pool = s.pool := rfl
@[simp] theorem modNotice_ports (p : Port) (f : NoticeUnit → NoticeUnit) (s : State) : (modNotice p f s).ports = s.ports := rfl
@[simp] theorem modNotice_chans (p : Port) (f : NoticeUnit → NoticeUnit) (s : State) : (modNotice p f s).chans = s.chans := rfl
@[simp] theorem modNotice_inputs (p : Port) (f : NoticeUnit → NoticeUnit) (s : State) : (modNotice p f s).inputs = s.inputs := rfl
@[simp] theorem modNotice_settings (p : Port) (f : NoticeUnit → NoticeUnit) (s : State) : (modNotice p f s).settings = s.settings := rfl

@[simp] theorem modEntry_pending (i : EntryId) (f : Entry → Entry) (s : State) : (modEntry i f s).pending = s.pending := rfl
@[simp] theorem modEntry_choices (i : EntryId) (f : Entry → Entry) (s : State) : (modEntry i f s).choices = s.choices := rfl
@[simp] theorem modEntry_clock (i : EntryId) (f : Entry → Entry) (s : State) : (modEntry i f s).clock = s.clock := rfl
@[simp] theorem modEntry_starting (i : EntryId) (f : Entry → Entry) (s : State) : (modEntry i f s).starting = s.starting := rfl
@[simp] theorem modEntry_startEnd (i : EntryId) (f : Entry → Entry) (s : State) : (modEntry i f s).startEnd = s.startEnd := rfl
@[simp] theorem modEntry_lines (i : EntryId) (f : Entry → Entry) (s : State) : (modEntry i f s).lines = s.lines := rfl
@[simp] theorem modEntry_sup (i : EntryId) (f : Entry → Entry) (s : State) : (modEntry i f s).sup = s.sup := rfl
@[simp] theorem modEntry_pool (i : EntryId) (f : Entry → Entry) (s : State) : (modEntry i f s).pool = s.pool := rfl
@[simp] theorem modEntry_ports (i : EntryId) (f : Entry → Entry) (s : State) : (modEntry i f s).ports = s.ports := rfl
@[simp] theorem modEntry_notices (i : EntryId) (f : Entry → Entry) (s : State) : (modEntry i f s).notices = s.notices := rfl
@[simp] theorem modEntry_chans (i : EntryId) (f : Entry → Entry) (s : State) : (modEntry i f s).chans = s.chans := rfl
@[simp] theorem modEntry_inputs (i : EntryId) (f : Entry → Entry) (s : State) : (modEntry i f s).inputs = s.inputs := rfl
@[simp] theorem modEntry_settings (i : EntryId) (f : Entry → Entry) (s : State) : (modEntry i f s).settings = s.settings := rfl

@[simp] theorem modRecency_pending (f : List EntryId → List EntryId) (s : State) : (modRecency f s).pending = s.pending := rfl
@[simp] theorem modRecency_choices (f : List EntryId → List EntryId) (s : State) : (modRecency f s).choices = s.choices := rfl
@[simp] theorem modRecency_clock (f : List EntryId → List EntryId) (s : State) : (modRecency f s).clock = s.clock := rfl
@[simp] theorem modRecency_starting (f : List EntryId → List EntryId) (s : State) : (modRecency f s).starting = s.starting := rfl
@[simp] theorem modRecency_startEnd (f : List EntryId → List EntryId) (s : State) : (modRecency f s).startEnd = s.startEnd := rfl
@[simp] theorem modRecency_lines (f : List EntryId → List EntryId) (s : State) : (modRecency f s).lines = s.lines := rfl
@[simp] theorem modRecency_sup (f : List EntryId → List EntryId) (s : State) : (modRecency f s).sup = s.sup := rfl
@[simp] theorem modRecency_pool (f : List EntryId → List EntryId) (s : State) : (modRecency f s).pool = s.pool := rfl
@[simp] theorem modRecency_ports (f : List EntryId → List EntryId) (s : State) : (modRecency f s).ports = s.ports := rfl
@[simp] theorem modRecency_notices (f : List EntryId → List EntryId) (s : State) : (modRecency f s).notices = s.notices := rfl
@[simp] theorem modRecency_chans (f : List EntryId → List EntryId) (s : State) : (modRecency f s).chans = s.chans := rfl
@[simp] theorem modRecency_inputs (f : List EntryId → List EntryId) (s : State) : (modRecency f s).inputs = s.inputs := rfl
@[simp] theorem modRecency_settings (f : List EntryId → List EntryId) (s : State) : (modRecency f s).settings = s.settings := rfl

@[simp] theorem modTableCtr_pending (f : TableCounters → TableCounters) (s : State) : (modTableCtr f s).pending = s.pending := rfl
@[simp] theorem modTableCtr_choices (f : TableCounters → TableCounters) (s : State) : (modTableCtr f s).choices = s.choices := rfl
@[simp] theorem modTableCtr_clock (f : TableCounters → TableCounters) (s : State) : (modTableCtr f s).clock = s.clock := rfl
@[simp] theorem modTableCtr_starting (f : TableCounters → TableCounters) (s : State) : (modTableCtr f s).starting = s.starting := rfl
@[simp] theorem modTableCtr_startEnd (f : TableCounters → TableCounters) (s : State) : (modTableCtr f s).startEnd = s.startEnd := rfl
@[simp] theorem modTableCtr_lines (f : TableCounters → TableCounters) (s : State) : (modTableCtr f s).lines = s.lines := rfl
@[simp] theorem modTableCtr_sup (f : TableCounters → TableCounters) (s : State) : (modTableCtr f s).sup = s.sup := rfl
@[simp] theorem modTableCtr_pool (f : TableCounters → TableCounters) (s : State) : (modTableCtr f s).pool = s.pool := rfl
@[simp] theorem modTableCtr_ports (f : TableCounters → TableCounters) (s : State) : (modTableCtr f s).ports = s.ports := rfl
@[simp] theorem modTableCtr_notices (f : TableCounters → TableCounters) (s : State) : (modTableCtr f s).notices = s.notices := rfl
@[simp] theorem modTableCtr_chans (f : TableCounters → TableCounters) (s : State) : (modTableCtr f s).chans = s.chans := rfl
@[simp] theorem modTableCtr_inputs (f : TableCounters → TableCounters) (s : State) : (modTableCtr f s).inputs = s.inputs := rfl
@[simp] theorem modTableCtr_settings (f : TableCounters → TableCounters) (s : State) : (modTableCtr f s).settings = s.settings := rfl

@[simp] theorem modChan_pending (c : ChanId) (f : Channel → Channel) (s : State) : (modChan c f s).pending = s.pending := rfl
@[simp] theorem modChan_choices (c : ChanId) (f : Channel → Channel) (s : State) : (modChan c f s).choices = s.choices := rfl
@[simp] theorem modChan_clock (c : ChanId) (f : Channel → Channel) (s : State) : (modChan c f s).clock = s.clock := rfl
@[simp] theorem modChan_starting (c : ChanId) (f : Channel → Channel) (s : State) : (modChan c f s).starting = s.starting := rfl
@[simp] theorem modChan_startEnd (c : ChanId) (f : Channel → Channel) (s : State) : (modChan c f s).startEnd = s.startEnd := rfl
@[simp] theorem modChan_lines (c : ChanId) (f : Channel → Channel) (s : State) : (modChan c f s).lines = s.lines := rfl
@[simp] theorem modChan_table (c : ChanId) (f : Channel → Channel) (s : State) : (modChan c f s).table = s.table := rfl
@[simp] theorem modChan_sup (c : ChanId) (f : Channel → Channel) (s : State) : (modChan c f s).sup = s.sup := rfl
@[simp] theorem modChan_pool (c : ChanId) (f : Channel → Channel) (s : State) : (modChan c f s).pool = s.pool := rfl
@[simp] theorem modChan_ports (c : ChanId) (f : Channel → Channel) (s : State) : (modChan c f s).ports = s.ports := rfl
@[simp] theorem modChan_notices (c : ChanId) (f : Channel → Channel) (s : State) : (modChan c f s).notices = s.notices := rfl
@[simp] theorem modChan_inputs (c : ChanId) (f : Channel → Channel) (s : State) : (modChan c f s).inputs = s.inputs := rfl
@[simp] theorem modChan_settings (c : ChanId) (f : Channel → Channel) (s : State) : (modChan c f s).settings = s.settings := rfl

@[simp] theorem modInput_pending (n : InputId) (f : InputLine → InputLine) (s : State) : (modInput n f s).pending = s.pending := rfl
@[simp] theorem modInput_choices (n : InputId) (f : InputLine → InputLine) (s : State) : (modInput n f s).choices = s.choices := rfl
@[simp] theorem modInput_clock (n : InputId) (f : InputLine → InputLine) (s : State) : (modInput n f s).clock = s.clock := rfl
@[simp] theorem modInput_starting (n : InputId) (f : InputLine → InputLine) (s : State) : (modInput n f s).starting = s.starting := rfl
@[simp] theorem modInput_startEnd (n : InputId) (f : InputLine → InputLine) (s : State) : (modInput n f s).startEnd = s.startEnd := rfl
@[simp] theorem modInput_lines (n : InputId) (f : InputLine → InputLine) (s : State) : (modInput n f s).lines = s.lines := rfl
@[simp] theorem modInput_table (n : InputId) (f : InputLine → InputLine) (s : State) : (modInput n f s).table = s.table := rfl
@[simp] theorem modInput_sup (n : InputId) (f : InputLine → InputLine) (s : State) : (modInput n f s).sup = s.sup := rfl
@[simp] theorem modInput_pool (n : InputId) (f : InputLine → InputLine) (s : State) : (modInput n f s).pool = s.pool := rfl
@[simp] theorem modInput_ports (n : InputId) (f : InputLine → InputLine) (s : State) : (modInput n f s).ports = s.ports := rfl
@[simp] theorem modInput_notices (n : InputId) (f : InputLine → InputLine) (s : State) : (modInput n f s).notices = s.notices := rfl
@[simp] theorem modInput_chans (n : InputId) (f : InputLine → InputLine) (s : State) : (modInput n f s).chans = s.chans := rfl
@[simp] theorem modInput_settings (n : InputId) (f : InputLine → InputLine) (s : State) : (modInput n f s).settings = s.settings := rfl

@[simp] theorem modLineCtr_pending (l : Line) (f : LineCounters → LineCounters) (s : State) : (modLineCtr l f s).pending = s.pending := rfl
@[simp] theorem modLineCtr_choices (l : Line) (f : LineCounters → LineCounters) (s : State) : (modLineCtr l f s).choices = s.choices := rfl
@[simp] theorem modLineCtr_clock (l : Line) (f : LineCounters → LineCounters) (s : State) : (modLineCtr l f s).clock = s.clock := rfl
@[simp] theorem modLineCtr_starting (l : Line) (f : LineCounters → LineCounters) (s : State) : (modLineCtr l f s).starting = s.starting := rfl
@[simp] theorem modLineCtr_startEnd (l : Line) (f : LineCounters → LineCounters) (s : State) : (modLineCtr l f s).startEnd = s.startEnd := rfl
@[simp] theorem modLineCtr_table (l : Line) (f : LineCounters → LineCounters) (s : State) : (modLineCtr l f s).table = s.table := rfl
@[simp] theorem modLineCtr_sup (l : Line) (f : LineCounters → LineCounters) (s : State) : (modLineCtr l f s).sup = s.sup := rfl
@[simp] theorem modLineCtr_pool (l : Line) (f : LineCounters → LineCounters) (s : State) : (modLineCtr l f s).pool = s.pool := rfl
@[simp] theorem modLineCtr_ports (l : Line) (f : LineCounters → LineCounters) (s : State) : (modLineCtr l f s).ports = s.ports := rfl
@[simp] theorem modLineCtr_notices (l : Line) (f : LineCounters → LineCounters) (s : State) : (modLineCtr l f s).notices = s.notices := rfl
@[simp] theorem modLineCtr_chans (l : Line) (f : LineCounters → LineCounters) (s : State) : (modLineCtr l f s).chans = s.chans := rfl
@[simp] theorem modLineCtr_inputs (l : Line) (f : LineCounters → LineCounters) (s : State) : (modLineCtr l f s).inputs = s.inputs := rfl
@[simp] theorem modLineCtr_settings (l : Line) (f : LineCounters → LineCounters) (s : State) : (modLineCtr l f s).settings = s.settings := rfl

@[simp] theorem modPortCtr_pending (p : Port) (f : PortCounters → PortCounters) (s : State) : (modPortCtr p f s).pending = s.pending := rfl
@[simp] theorem modPortCtr_choices (p : Port) (f : PortCounters → PortCounters) (s : State) : (modPortCtr p f s).choices = s.choices := rfl
@[simp] theorem modPortCtr_clock (p : Port) (f : PortCounters → PortCounters) (s : State) : (modPortCtr p f s).clock = s.clock := rfl
@[simp] theorem modPortCtr_starting (p : Port) (f : PortCounters → PortCounters) (s : State) : (modPortCtr p f s).starting = s.starting := rfl
@[simp] theorem modPortCtr_startEnd (p : Port) (f : PortCounters → PortCounters) (s : State) : (modPortCtr p f s).startEnd = s.startEnd := rfl
@[simp] theorem modPortCtr_lines (p : Port) (f : PortCounters → PortCounters) (s : State) : (modPortCtr p f s).lines = s.lines := rfl
@[simp] theorem modPortCtr_table (p : Port) (f : PortCounters → PortCounters) (s : State) : (modPortCtr p f s).table = s.table := rfl
@[simp] theorem modPortCtr_sup (p : Port) (f : PortCounters → PortCounters) (s : State) : (modPortCtr p f s).sup = s.sup := rfl
@[simp] theorem modPortCtr_pool (p : Port) (f : PortCounters → PortCounters) (s : State) : (modPortCtr p f s).pool = s.pool := rfl
@[simp] theorem modPortCtr_notices (p : Port) (f : PortCounters → PortCounters) (s : State) : (modPortCtr p f s).notices = s.notices := rfl
@[simp] theorem modPortCtr_chans (p : Port) (f : PortCounters → PortCounters) (s : State) : (modPortCtr p f s).chans = s.chans := rfl
@[simp] theorem modPortCtr_inputs (p : Port) (f : PortCounters → PortCounters) (s : State) : (modPortCtr p f s).inputs = s.inputs := rfl
@[simp] theorem modPortCtr_settings (p : Port) (f : PortCounters → PortCounters) (s : State) : (modPortCtr p f s).settings = s.settings := rfl

@[simp] theorem modPool_pending (f : Pool → Pool) (s : State) : (modPool f s).pending = s.pending := rfl
@[simp] theorem modPool_choices (f : Pool → Pool) (s : State) : (modPool f s).choices = s.choices := rfl
@[simp] theorem modPool_clock (f : Pool → Pool) (s : State) : (modPool f s).clock = s.clock := rfl
@[simp] theorem modPool_starting (f : Pool → Pool) (s : State) : (modPool f s).starting = s.starting := rfl
@[simp] theorem modPool_startEnd (f : Pool → Pool) (s : State) : (modPool f s).startEnd = s.startEnd := rfl
@[simp] theorem modPool_lines (f : Pool → Pool) (s : State) : (modPool f s).lines = s.lines := rfl
@[simp] theorem modPool_table (f : Pool → Pool) (s : State) : (modPool f s).table = s.table := rfl
@[simp] theorem modPool_sup (f : Pool → Pool) (s : State) : (modPool f s).sup = s.sup := rfl
@[simp] theorem modPool_ports (f : Pool → Pool) (s : State) : (modPool f s).ports = s.ports := rfl
@[simp] theorem modPool_notices (f : Pool → Pool) (s : State) : (modPool f s).notices = s.notices := rfl
@[simp] theorem modPool_chans (f : Pool → Pool) (s : State) : (modPool f s).chans = s.chans := rfl
@[simp] theorem modPool_inputs (f : Pool → Pool) (s : State) : (modPool f s).inputs = s.inputs := rfl
@[simp] theorem modPool_settings (f : Pool → Pool) (s : State) : (modPool f s).settings = s.settings := rfl

@[simp] theorem modSup_pending (f : Supervision → Supervision) (s : State) : (modSup f s).pending = s.pending := rfl
@[simp] theorem modSup_choices (f : Supervision → Supervision) (s : State) : (modSup f s).choices = s.choices := rfl
@[simp] theorem modSup_clock (f : Supervision → Supervision) (s : State) : (modSup f s).clock = s.clock := rfl
@[simp] theorem modSup_starting (f : Supervision → Supervision) (s : State) : (modSup f s).starting = s.starting := rfl
@[simp] theorem modSup_startEnd (f : Supervision → Supervision) (s : State) : (modSup f s).startEnd = s.startEnd := rfl
@[simp] theorem modSup_lines (f : Supervision → Supervision) (s : State) : (modSup f s).lines = s.lines := rfl
@[simp] theorem modSup_table (f : Supervision → Supervision) (s : State) : (modSup f s).table = s.table := rfl
@[simp] theorem modSup_pool (f : Supervision → Supervision) (s : State) : (modSup f s).pool = s.pool := rfl
@[simp] theorem modSup_ports (f : Supervision → Supervision) (s : State) : (modSup f s).ports = s.ports := rfl
@[simp] theorem modSup_notices (f : Supervision → Supervision) (s : State) : (modSup f s).notices = s.notices := rfl
@[simp] theorem modSup_chans (f : Supervision → Supervision) (s : State) : (modSup f s).chans = s.chans := rfl
@[simp] theorem modSup_inputs (f : Supervision → Supervision) (s : State) : (modSup f s).inputs = s.inputs := rfl
@[simp] theorem modSup_settings (f : Supervision → Supervision) (s : State) : (modSup f s).settings = s.settings := rfl

@[simp] theorem modWork_pending (f : Settings → Settings) (s : State) : (modWork f s).pending = s.pending := rfl
@[simp] theorem modWork_choices (f : Settings → Settings) (s : State) : (modWork f s).choices = s.choices := rfl
@[simp] theorem modWork_clock (f : Settings → Settings) (s : State) : (modWork f s).clock = s.clock := rfl
@[simp] theorem modWork_starting (f : Settings → Settings) (s : State) : (modWork f s).starting = s.starting := rfl
@[simp] theorem modWork_startEnd (f : Settings → Settings) (s : State) : (modWork f s).startEnd = s.startEnd := rfl
@[simp] theorem modWork_lines (f : Settings → Settings) (s : State) : (modWork f s).lines = s.lines := rfl
@[simp] theorem modWork_table (f : Settings → Settings) (s : State) : (modWork f s).table = s.table := rfl
@[simp] theorem modWork_sup (f : Settings → Settings) (s : State) : (modWork f s).sup = s.sup := rfl
@[simp] theorem modWork_pool (f : Settings → Settings) (s : State) : (modWork f s).pool = s.pool := rfl
@[simp] theorem modWork_ports (f : Settings → Settings) (s : State) : (modWork f s).ports = s.ports := rfl
@[simp] theorem modWork_notices (f : Settings → Settings) (s : State) : (modWork f s).notices = s.notices := rfl
@[simp] theorem modWork_chans (f : Settings → Settings) (s : State) : (modWork f s).chans = s.chans := rfl
@[simp] theorem modWork_inputs (f : Settings → Settings) (s : State) : (modWork f s).inputs = s.inputs := rfl

@[simp] theorem modFig_pending (f : SettingsFigures → SettingsFigures) (s : State) : (modFig f s).pending = s.pending := rfl
@[simp] theorem modFig_choices (f : SettingsFigures → SettingsFigures) (s : State) : (modFig f s).choices = s.choices := rfl
@[simp] theorem modFig_clock (f : SettingsFigures → SettingsFigures) (s : State) : (modFig f s).clock = s.clock := rfl
@[simp] theorem modFig_starting (f : SettingsFigures → SettingsFigures) (s : State) : (modFig f s).starting = s.starting := rfl
@[simp] theorem modFig_startEnd (f : SettingsFigures → SettingsFigures) (s : State) : (modFig f s).startEnd = s.startEnd := rfl
@[simp] theorem modFig_lines (f : SettingsFigures → SettingsFigures) (s : State) : (modFig f s).lines = s.lines := rfl
@[simp] theorem modFig_table (f : SettingsFigures → SettingsFigures) (s : State) : (modFig f s).table = s.table := rfl
@[simp] theorem modFig_sup (f : SettingsFigures → SettingsFigures) (s : State) : (modFig f s).sup = s.sup := rfl
@[simp] theorem modFig_pool (f : SettingsFigures → SettingsFigures) (s : State) : (modFig f s).pool = s.pool := rfl
@[simp] theorem modFig_ports (f : SettingsFigures → SettingsFigures) (s : State) : (modFig f s).ports = s.ports := rfl
@[simp] theorem modFig_notices (f : SettingsFigures → SettingsFigures) (s : State) : (modFig f s).notices = s.notices := rfl
@[simp] theorem modFig_chans (f : SettingsFigures → SettingsFigures) (s : State) : (modFig f s).chans = s.chans := rfl
@[simp] theorem modFig_inputs (f : SettingsFigures → SettingsFigures) (s : State) : (modFig f s).inputs = s.inputs := rfl

@[simp] theorem modProposals_pending (f : List Proposal → List Proposal) (s : State) : (modProposals f s).pending = s.pending := rfl
@[simp] theorem modProposals_choices (f : List Proposal → List Proposal) (s : State) : (modProposals f s).choices = s.choices := rfl
@[simp] theorem modProposals_clock (f : List Proposal → List Proposal) (s : State) : (modProposals f s).clock = s.clock := rfl
@[simp] theorem modProposals_starting (f : List Proposal → List Proposal) (s : State) : (modProposals f s).starting = s.starting := rfl
@[simp] theorem modProposals_startEnd (f : List Proposal → List Proposal) (s : State) : (modProposals f s).startEnd = s.startEnd := rfl
@[simp] theorem modProposals_lines (f : List Proposal → List Proposal) (s : State) : (modProposals f s).lines = s.lines := rfl
@[simp] theorem modProposals_table (f : List Proposal → List Proposal) (s : State) : (modProposals f s).table = s.table := rfl
@[simp] theorem modProposals_sup (f : List Proposal → List Proposal) (s : State) : (modProposals f s).sup = s.sup := rfl
@[simp] theorem modProposals_pool (f : List Proposal → List Proposal) (s : State) : (modProposals f s).pool = s.pool := rfl
@[simp] theorem modProposals_ports (f : List Proposal → List Proposal) (s : State) : (modProposals f s).ports = s.ports := rfl
@[simp] theorem modProposals_notices (f : List Proposal → List Proposal) (s : State) : (modProposals f s).notices = s.notices := rfl
@[simp] theorem modProposals_chans (f : List Proposal → List Proposal) (s : State) : (modProposals f s).chans = s.chans := rfl
@[simp] theorem modProposals_inputs (f : List Proposal → List Proposal) (s : State) : (modProposals f s).inputs = s.inputs := rfl

/-! ## The part that an update changes -/

@[simp] theorem modLine_line (l : Line) (f : LinePort → LinePort) (s : State) : (modLine l f s).line l = f (s.line l) := by
  simp [modLine, State.line]
@[simp] theorem modLine_line_other (l m : Line) (f : LinePort → LinePort) (s : State) (h : m ≠ l) : (modLine l f s).line m = s.line m := by
  simp [modLine, State.line, h]
@[simp] theorem modPort_port (p : Port) (f : ClientPort → ClientPort) (s : State) : (modPort p f s).port p = f (s.port p) := by
  simp [modPort, State.port]
@[simp] theorem modPort_port_other (p q : Port) (f : ClientPort → ClientPort) (s : State) (h : q ≠ p) :
    (modPort p f s).port q = s.port q := by simp [modPort, State.port, h]
@[simp] theorem modNotice_notice (p : Port) (f : NoticeUnit → NoticeUnit) (s : State) : (modNotice p f s).notice p = f (s.notice p) := by
  simp [modNotice, State.notice]
@[simp] theorem modNotice_notice_other (p q : Port) (f : NoticeUnit → NoticeUnit) (s : State) (h : q ≠ p) :
    (modNotice p f s).notice q = s.notice q := by simp [modNotice, State.notice, h]
@[simp] theorem modEntry_entry (i : EntryId) (f : Entry → Entry) (s : State) : (modEntry i f s).entry i = f (s.entry i) := by
  simp [modEntry, State.entry]
@[simp] theorem modEntry_entry_other (i j : EntryId) (f : Entry → Entry) (s : State) (h : j ≠ i) :
    (modEntry i f s).entry j = s.entry j := by simp [modEntry, State.entry, h]
@[simp] theorem modEntry_recency (i : EntryId) (f : Entry → Entry) (s : State) : (modEntry i f s).table.recency = s.table.recency := rfl
@[simp] theorem modEntry_tableCtr (i : EntryId) (f : Entry → Entry) (s : State) : (modEntry i f s).table.ctr = s.table.ctr := rfl
@[simp] theorem modRecency_recency (f : List EntryId → List EntryId) (s : State) :
    (modRecency f s).table.recency = f s.table.recency := rfl
@[simp] theorem modRecency_entry (f : List EntryId → List EntryId) (s : State) (i : EntryId) : (modRecency f s).entry i = s.entry i := rfl
@[simp] theorem modRecency_tableCtr (f : List EntryId → List EntryId) (s : State) : (modRecency f s).table.ctr = s.table.ctr := rfl
@[simp] theorem modTableCtr_tableCtr (f : TableCounters → TableCounters) (s : State) : (modTableCtr f s).table.ctr = f s.table.ctr := rfl
@[simp] theorem modTableCtr_entry (f : TableCounters → TableCounters) (s : State) (i : EntryId) : (modTableCtr f s).entry i = s.entry i := rfl
@[simp] theorem modTableCtr_recency (f : TableCounters → TableCounters) (s : State) :
    (modTableCtr f s).table.recency = s.table.recency := rfl
@[simp] theorem modChan_chan (c : ChanId) (f : Channel → Channel) (s : State) : (modChan c f s).chan c = f (s.chan c) := by
  simp [modChan, State.chan]
@[simp] theorem modChan_chan_other (c d : ChanId) (f : Channel → Channel) (s : State) (h : d ≠ c) : (modChan c f s).chan d = s.chan d := by
  simp [modChan, State.chan, h]
@[simp] theorem modInput_input (n : InputId) (f : InputLine → InputLine) (s : State) : (modInput n f s).input n = f (s.input n) := by
  simp [modInput, State.input]
@[simp] theorem modInput_input_other (n m : InputId) (f : InputLine → InputLine) (s : State) (h : m ≠ n) :
    (modInput n f s).input m = s.input m := by simp [modInput, State.input, h]
@[simp] theorem modPool_pool (f : Pool → Pool) (s : State) : (modPool f s).pool = f s.pool := rfl
@[simp] theorem modSup_sup (f : Supervision → Supervision) (s : State) : (modSup f s).sup = f s.sup := rfl
@[simp] theorem modWork_work (f : Settings → Settings) (s : State) : (modWork f s).work = f s.work := rfl
@[simp] theorem modWork_settings (f : Settings → Settings) (s : State) :
    (modWork f s).settings = { s.settings with work := f s.settings.work } := rfl
@[simp] theorem modFig_settings (f : SettingsFigures → SettingsFigures) (s : State) :
    (modFig f s).settings = { s.settings with fig := f s.settings.fig } := rfl
@[simp] theorem modProposals_settings (f : List Proposal → List Proposal) (s : State) :
    (modProposals f s).settings = { s.settings with proposals := f s.settings.proposals } := rfl

/-! ## Reading one part when the whole of its kind is the same -/

theorem line_congr {s t : State} (h : t.lines = s.lines) (l : Line) : t.line l = s.line l := by simp [State.line, h]
theorem port_congr {s t : State} (h : t.ports = s.ports) (p : Port) : t.port p = s.port p := by simp [State.port, h]
theorem notice_congr {s t : State} (h : t.notices = s.notices) (p : Port) : t.notice p = s.notice p := by simp [State.notice, h]
theorem entry_congr {s t : State} (h : t.table = s.table) (i : EntryId) : t.entry i = s.entry i := by simp [State.entry, h]
theorem chan_congr {s t : State} (h : t.chans = s.chans) (c : ChanId) : t.chan c = s.chan c := by simp [State.chan, h]
theorem input_congr {s t : State} (h : t.inputs = s.inputs) (n : InputId) : t.input n = s.input n := by simp [State.input, h]
theorem work_congr {s t : State} (h : t.settings = s.settings) : t.work = s.work := by simp [State.work, h]

end Sys2Proof.Machine
end

