-- ==== Sys2Proof/Laws/Frames.lean ====
section
/-! SUPPORT. What each shared operation can change: one frame lemma for each, in the terms of `OnlyChanges`, and how frames compose; and which causes it can
raise, in the terms of `OnlyCauses`. -/

namespace Sys2Proof

open Sys2Proof.Machine

/-! ## Frames compose -/

theorem Part.same_refl (s : State) (q : Part) : q.Same s s := by cases q <;> simp [Part.Same]

theorem Part.same_trans {s t u : State} {q : Part} (h : q.Same s t) (k : q.Same t u) : q.Same s u := by
  cases q <;> simp only [Part.Same] at * <;> simp_all

theorem OnlyChanges.refl (ps : List Part) (s : State) : OnlyChanges ps s s := fun q _ => Part.same_refl s q

theorem OnlyChanges.mono {ps qs : List Part} {s t : State} (h : OnlyChanges ps s t) (sub : ps ⊆ qs) : OnlyChanges qs s t :=
  fun q hq => h q (fun m => hq (sub m))

theorem OnlyChanges.trans {ps : List Part} {s t u : State} (h : OnlyChanges ps s t) (k : OnlyChanges ps t u) : OnlyChanges ps s u :=
  fun q hq => Part.same_trans (h q hq) (k q hq)

/-- Two changes one after the other, each within its own parts. -/
theorem OnlyChanges.comp {ps qs rs : List Part} {s t u : State} (h : OnlyChanges ps s t) (k : OnlyChanges qs t u)
    (hp : ps ⊆ rs) (hq : qs ⊆ rs) : OnlyChanges rs s u := (h.mono hp).trans (k.mono hq)

theorem OnlyChanges.foldl {α : Type} {ps : List Part} (f : State → α → State) (h : ∀ s x, OnlyChanges ps s (f s x)) :
    ∀ (xs : List α) (s : State), OnlyChanges ps s (xs.foldl f s)
  | [], s => OnlyChanges.refl ps s
  | x :: xs, s => (h s x).trans (OnlyChanges.foldl f h xs (f s x))

theorem OnlyChanges.ite {ps : List Part} {s t u : State} (c : Prop) [Decidable c] (h : c → OnlyChanges ps s t) (k : ¬ c → OnlyChanges ps s u) :
    OnlyChanges ps s (if c then t else u) := by split <;> simp_all

/-! ## The updates -/

theorem modLine_only (l : Line) (f : LinePort → LinePort) (s : State) : OnlyChanges [.line l] s (modLine l f s) := by
  intro q hq
  cases q with
  | line m => exact modLine_line_other l m f s (by simpa using hq)
  | _ => first | rfl | exact ⟨rfl, rfl⟩ | exact ⟨rfl, rfl, rfl, rfl, rfl⟩

theorem modLineCtr_only (l : Line) (f : LineCounters → LineCounters) (s : State) : OnlyChanges [.line l] s (modLineCtr l f s) :=
  modLine_only l _ s

theorem modPort_only (p : Port) (f : ClientPort → ClientPort) (s : State) : OnlyChanges [.port p, .queues p] s (modPort p f s) := by
  intro q hq
  cases q with
  | port r => simp only [Part.Same]; rw [modPort_port_other p r f s (by rintro rfl; simp at hq)]
  | queues r => simp only [Part.Same]; rw [modPort_port_other p r f s (by rintro rfl; simp at hq)]; simp
  | _ => first | rfl | exact ⟨rfl, rfl⟩

/-- A change of a client port that leaves its queues and transmitter alone. -/
theorem modPort_only_plain (p : Port) (f : ClientPort → ClientPort) (s : State)
    (h : ∀ x, (f x).urgent = x.urgent ∧ (f x).routine = x.routine ∧ (f x).lane = x.lane ∧ (f x).tx = x.tx ∧ (f x).sent = x.sent) :
    OnlyChanges [.port p] s (modPort p f s) := by
  intro q hq
  cases q with
  | port r => simp only [Part.Same]; rw [modPort_port_other p r f s (by rintro rfl; simp at hq)]
  | queues r =>
    by_cases e : r = p
    · subst e; simpa [Part.Same] using h (s.port r)
    · simp only [Part.Same]; rw [modPort_port_other p r f s e]; simp
  | _ => first | rfl | exact ⟨rfl, rfl⟩

/-- A change of a client port's queues and transmitter alone. -/
theorem modPort_only_queues (p : Port) (f : ClientPort → ClientPort) (s : State) (h : ∀ x, (f x).plain = x.plain) :
    OnlyChanges [.queues p] s (modPort p f s) := by
  intro q hq
  cases q with
  | port r =>
    by_cases e : r = p
    · subst e; simpa [Part.Same] using h (s.port r)
    · simp only [Part.Same]; rw [modPort_port_other p r f s e]
  | queues r => simp only [Part.Same]; rw [modPort_port_other p r f s (by rintro rfl; simp at hq)]; simp
  | _ => first | rfl | exact ⟨rfl, rfl⟩

theorem modPortCtr_only (p : Port) (f : PortCounters → PortCounters) (s : State) : OnlyChanges [.port p] s (modPortCtr p f s) :=
  modPort_only_plain p _ s (fun _ => ⟨rfl, rfl, rfl, rfl, rfl⟩)

theorem modNotice_only (p : Port) (f : NoticeUnit → NoticeUnit) (s : State) : OnlyChanges [.notice p] s (modNotice p f s) := by
  intro q hq
  cases q with
  | notice r => exact modNotice_notice_other p r f s (by simpa using hq)
  | _ => first | rfl | exact ⟨rfl, rfl⟩ | exact ⟨rfl, rfl, rfl, rfl, rfl⟩

theorem modEntry_only (i : EntryId) (f : Entry → Entry) (s : State) : OnlyChanges [.entry i] s (modEntry i f s) := by
  intro q hq
  cases q with
  | entry j => exact modEntry_entry_other i j f s (by simpa using hq)
  | _ => first | rfl | exact ⟨rfl, rfl⟩ | exact ⟨rfl, rfl, rfl, rfl, rfl⟩

theorem modRecency_only (f : List EntryId → List EntryId) (s : State) : OnlyChanges [.recency] s (modRecency f s) := by
  intro q hq
  cases q with
  | recency => simp at hq
  | _ => first | rfl | exact ⟨rfl, rfl⟩ | exact ⟨rfl, rfl, rfl, rfl, rfl⟩

theorem modTableCtr_only (f : TableCounters → TableCounters) (s : State) : OnlyChanges [.tableCtr] s (modTableCtr f s) := by
  intro q hq
  cases q with
  | tableCtr => simp at hq
  | _ => first | rfl | exact ⟨rfl, rfl⟩ | exact ⟨rfl, rfl, rfl, rfl, rfl⟩

theorem modChan_only (c : ChanId) (f : Channel → Channel) (s : State) : OnlyChanges [.chan c] s (modChan c f s) := by
  intro q hq
  cases q with
  | chan d => exact modChan_chan_other c d f s (by simpa using hq)
  | _ => first | rfl | exact ⟨rfl, rfl⟩ | exact ⟨rfl, rfl, rfl, rfl, rfl⟩

theorem modInput_only (n : InputId) (f : InputLine → InputLine) (s : State) : OnlyChanges [.input n] s (modInput n f s) := by
  intro q hq
  cases q with
  | input m => exact modInput_input_other n m f s (by simpa using hq)
  | _ => first | rfl | exact ⟨rfl, rfl⟩ | exact ⟨rfl, rfl, rfl, rfl, rfl⟩

theorem modPool_only (f : Pool → Pool) (s : State) : OnlyChanges [.pool] s (modPool f s) := by
  intro q hq
  cases q with
  | pool => simp at hq
  | _ => first | rfl | exact ⟨rfl, rfl⟩ | exact ⟨rfl, rfl, rfl, rfl, rfl⟩

theorem modSup_only (f : Supervision → Supervision) (s : State) : OnlyChanges [.sup] s (modSup f s) := by
  intro q hq
  cases q with
  | sup => simp at hq
  | _ => first | rfl | exact ⟨rfl, rfl⟩ | exact ⟨rfl, rfl, rfl, rfl, rfl⟩

theorem modWork_only (f : Settings → Settings) (s : State) : OnlyChanges [.work] s (modWork f s) := by
  intro q hq
  cases q with
  | work => simp at hq
  | _ => first | rfl | exact ⟨rfl, rfl⟩ | exact ⟨rfl, rfl, rfl, rfl, rfl⟩

theorem modFig_only (f : SettingsFigures → SettingsFigures) (s : State) : OnlyChanges [.figures] s (modFig f s) := by
  intro q hq
  cases q with
  | figures => simp at hq
  | _ => first | rfl | exact ⟨rfl, rfl⟩ | exact ⟨rfl, rfl, rfl, rfl, rfl⟩

theorem modProposals_only (f : List Proposal → List Proposal) (s : State) : OnlyChanges [.proposals] s (modProposals f s) := by
  intro q hq
  cases q with
  | proposals => simp at hq
  | _ => first | rfl | exact ⟨rfl, rfl⟩ | exact ⟨rfl, rfl, rfl, rfl, rfl⟩

theorem noteChoice_only {α : Type} (xs : List α) (s : State) : OnlyChanges [.choices] s (noteChoice xs s) := by
  unfold noteChoice
  split
  · intro q hq
    cases q with
    | choices => simp at hq
    | _ => first | rfl | exact ⟨rfl, rfl⟩ | exact ⟨rfl, rfl, rfl, rfl, rfl⟩
  · exact OnlyChanges.refl _ s

/-! ## The lists of parts, one within another -/

@[simp] theorem entry_mem_entryParts (i : EntryId) : Part.entry i ∈ entryParts := by simp [entryParts]
@[simp] theorem chan_mem_chanParts (c : ChanId) : Part.chan c ∈ chanParts := by simp [chanParts]
theorem notice_mem (p : Port) : Part.notice p ∈ noticeParts := by cases p <;> simp [noticeParts]
theorem queues_mem (p : Port) : Part.queues p ∈ queueParts := by cases p <;> simp [queueParts]

theorem noticeParts_pool : noticeParts ⊆ poolParts := by simp [poolParts]
theorem poolParts_port (p : Port) : poolParts ⊆ portParts p := by intro q hq; simp [portParts, hq]
theorem noticeParts_watch (i : EntryId) : noticeParts ⊆ watchParts i := by intro q hq; simp [watchParts, hq]
theorem noticeParts_stream : noticeParts ⊆ streamParts := by intro q hq; simp [streamParts, hq]
theorem tableParts_stream : tableParts ⊆ streamParts := by intro q hq; simp [streamParts, hq]
theorem watchParts_stream (i : EntryId) : watchParts i ⊆ streamParts := by
  intro q hq
  simp only [watchParts, List.mem_cons] at hq
  rcases hq with rfl | rfl | hq
  · simp [streamParts, tableParts]
  · simp [streamParts]
  · exact noticeParts_stream hq
theorem portParts_delivery (p : Port) : portParts p ⊆ deliveryParts := by
  intro q hq
  simp only [portParts, List.mem_cons] at hq
  rcases hq with rfl | rfl | hq
  · cases p <;> simp [deliveryParts]
  · have := queues_mem p; simp [deliveryParts, this]
  · simp [deliveryParts, hq]
theorem poolParts_delivery : poolParts ⊆ deliveryParts := by intro q hq; simp [deliveryParts, hq]
theorem deliveryParts_send : deliveryParts ⊆ sendParts := by intro q hq; simp [sendParts, hq]
theorem streamParts_send : streamParts ⊆ sendParts := by intro q hq; simp [sendParts, hq]
theorem sendParts_burst : sendParts ⊆ burstParts := by intro q hq; simp [burstParts, hq]
theorem line_mem_send (l : Line) : Part.line l ∈ sendParts := by cases l <;> simp [sendParts]
theorem port_mem_delivery (p : Port) : Part.port p ∈ deliveryParts := by cases p <;> simp [deliveryParts]

/-! ## Causes and the pool -/

theorem raiseAt_only (c : Cause) (subj : Subject) (p : Port) (s : State) : OnlyChanges [.notice p] s (raiseAt c subj p s) :=
  modNotice_only p _ s

theorem raiseAt_only_notices (c : Cause) (subj : Subject) (p : Port) (s : State) : OnlyChanges noticeParts s (raiseAt c subj p s) :=
  (raiseAt_only c subj p s).mono (by intro q hq; simp at hq; subst hq; exact notice_mem p)

theorem raiseSet_only (c : Cause) (subj : Subject) (ports : PerPort Bool) (s : State) : OnlyChanges noticeParts s (raiseSet c subj ports s) :=
  OnlyChanges.foldl _ (fun s p => by split <;> [exact raiseAt_only_notices c subj p s; exact OnlyChanges.refl _ s]) allPorts s

theorem raisePresent_only (c : Cause) (subj : Subject) (s : State) : OnlyChanges noticeParts s (raisePresent c subj s) := raiseSet_only c subj _ s

theorem withPool_only (q : Pool) (s : State) : OnlyChanges [.pool] s { s with pool := q } := modPool_only (fun _ => q) s

theorem judgePool_only (s : State) : OnlyChanges poolParts s (judgePool s) := by
  unfold judgePool
  split
  · exact (withPool_only _ s).comp (raisePresent_only _ _ _) (by simp [poolParts]) noticeParts_pool
  · split
    · exact (withPool_only _ s).comp (raisePresent_only _ _ _) (by simp [poolParts]) noticeParts_pool
    · exact OnlyChanges.refl _ s

theorem addRef_only (b : BufId) (s : State) : OnlyChanges [.pool] s (addRef b s) := modPool_only _ s

theorem release_only (b : BufId) (s : State) : OnlyChanges poolParts s (release b s) :=
  (modPool_only _ s).comp (judgePool_only _) (by simp [poolParts]) (fun _ h => h)

theorem releaseOpt_only (b : Option BufId) (s : State) : OnlyChanges poolParts s (releaseOpt b s) := by
  cases b with
  | none => exact OnlyChanges.refl _ s
  | some b => exact release_only b s

theorem releaseAll_only (bs : List BufId) (s : State) : OnlyChanges poolParts s (releaseAll bs s) :=
  OnlyChanges.foldl _ (fun s b => release_only b s) bs s

theorem takeBuffer_only (r : Request) (frame : List Byte) (s : State) : OnlyChanges poolParts s (takeBuffer r frame s).2 := by
  unfold takeBuffer
  split
  · exact (modPool_only _ s).mono (by simp [poolParts])
  · split
    · exact (modPool_only _ s).mono (by simp [poolParts])
    · split
      · exact (modPool_only _ s).mono (by simp [poolParts])
      · exact (modPool_only _ s).comp (judgePool_only _) (by simp [poolParts]) (fun _ h => h)

theorem modNotice_only_notices (p : Port) (f : NoticeUnit → NoticeUnit) (s : State) : OnlyChanges noticeParts s (modNotice p f s) :=
  (modNotice_only p f s).mono (by intro q hq; simp at hq; subst hq; exact notice_mem p)

@[simp] theorem NoticeUnit.of_pool_subject (n : NoticeUnit) : (n.of .pool).subject = n.poolSubject := rfl

/-- What `tellPool` does to the state that an event's effects have left: it touches the notices alone. -/
theorem tellPool_only (s t : State) : OnlyChanges noticeParts t (tellPool s t) :=
  OnlyChanges.foldl _ (fun s p => by split <;> [exact OnlyChanges.refl _ s; exact modNotice_only_notices p _ s]) allPorts t

/-- No two causes share a record. -/
theorem Cause.idx_ne {c d : Cause} (h : d ≠ c) : d.idx ≠ c.idx := by revert h; cases c <;> cases d <;> decide

/-- All that `tellPool` does to a notice state: a POOL subject that the event has set takes the free count after the step (R87), and nothing else
changes. -/
theorem tellPool_notice (s t : State) (p : Port) :
    ((tellPool s t).notice p).slot = (t.notice p).slot ∧
      ((tellPool s t).notice p).of .pool = (if (t.notice p).poolSubject = (s.notice p).poolSubject then (t.notice p).of .pool
        else { (t.notice p).of .pool with subject := (t.notice p).poolSubject.map (Subject.withFree t.pool.free) }) ∧
      ∀ c, c ≠ .pool → ((tellPool s t).notice p).of c = (t.notice p).of c := by
  have one : ∀ q (f : NoticeUnit → NoticeUnit) u, (if (t.notice q).poolSubject = (s.notice q).poolSubject then u else modNotice q f u).notice p =
      if p = q ∧ (t.notice p).poolSubject ≠ (s.notice p).poolSubject then f (u.notice p) else u.notice p := by
    intro q f u
    by_cases e : p = q
    · subst e; split <;> simp_all
    · split <;> simp [e]
  have eq : (tellPool s t).notice p = if (t.notice p).poolSubject = (s.notice p).poolSubject then t.notice p
      else { t.notice p with causes := updAt (t.notice p).causes Cause.pool.idx (fun r =>
        { r with subject := r.subject.map (Subject.withFree t.pool.free) }) } := by
    cases p <;> simp only [tellPool, allPorts, List.foldl, one] <;> simp
  rw [eq]
  split
  · simp
  · refine ⟨rfl, by simp [NoticeUnit.of, NoticeUnit.poolSubject], fun c hc => ?_⟩
    simp [NoticeUnit.of, Cause.idx_ne hc]

/-- An event that sets no POOL subject has none to fill in. -/
theorem tellPool_same {s t : State} (h : ∀ p, (t.notice p).poolSubject = (s.notice p).poolSubject) : tellPool s t = t := by
  simp [tellPool, allPorts, h]

theorem tellPool_of_only {ps : List Part} {s t : State} (h : OnlyChanges ps s t) (hn : ∀ p, Part.notice p ∉ ps) : tellPool s t = t :=
  tellPool_same (fun p => by have := h (.notice p) (hn p); simp only [Part.Same] at this; rw [this])

/-! ## Which causes an operation may raise -/

@[simp] theorem CauseRecord.after_nil (r : CauseRecord) : r.after [] = r := rfl
@[simp] theorem CauseRecord.after_cons (r : CauseRecord) (x : Subject) (xs : List Subject) : r.after (x :: xs) = (r.raised x).after xs := rfl

theorem CauseRecord.after_append (r : CauseRecord) (xs ys : List Subject) : r.after (xs ++ ys) = (r.after xs).after ys := by
  induction xs generalizing r with
  | nil => rfl
  | cons x xs ih => simp [ih]

/-- All that `raiseAt` does to the notice state of its port (R170); `raiseAt_only` says that it touches no other. -/
theorem raiseAt_raises (c : Cause) (subj : Subject) (p : Port) (s : State) : RaisedAt c subj p s (raiseAt c subj p s) := by
  refine ⟨by simp [raiseAt], by simp [raiseAt, NoticeUnit.of, CauseRecord.raised], fun d hd => ?_⟩
  simp [raiseAt, NoticeUnit.of, Cause.idx_ne hd]

theorem raiseAt_notice_other (c : Cause) (subj : Subject) {p q : Port} (s : State) (h : q ≠ p) : (raiseAt c subj p s).notice q = s.notice q :=
  modNotice_notice_other p q _ s h

/-- All that `raiseSet` does to the notice states: the cause stands raised at exactly the ports of the set (R170). -/
theorem raiseSet_raises (c : Cause) (subj : Subject) (ports : PerPort Bool) (s : State) :
    RaisedExactly c subj (fun p => ports.get p = true) s (raiseSet c subj ports s) := by
  have raise : ∀ p q t, (if ports.get q then raiseAt c subj q t else t).notice p =
      if p = q ∧ ports.get q = true then { t.notice p with causes := updAt (t.notice p).causes c.idx (CauseRecord.raised subj) }
      else t.notice p := by
    intro p q t
    by_cases e : p = q
    · subst e; split <;> simp_all [raiseAt]
    · split <;> simp [e, raiseAt_notice_other c subj t e]
  have eq : ∀ p, (raiseSet c subj ports s).notice p = if ports.get p = true then (raiseAt c subj p s).notice p else s.notice p := by
    intro p
    cases p <;> simp only [raiseSet, allPorts, List.foldl, raise] <;> simp [raiseAt]
  intro p
  refine ⟨fun h => ?_, fun h => by simp [eq p, h]⟩
  obtain ⟨a, b, d⟩ := raiseAt_raises c subj p s
  simp only [RaisedAt, eq p, if_pos h]
  exact ⟨a, b, d⟩

theorem OnlyCauses.refl (cs : List Cause) (s : State) : OnlyCauses cs s s := fun _ => ⟨rfl, fun _ _ => rfl⟩

theorem OnlyCauses.mono {cs ds : List Cause} {s t : State} (h : OnlyCauses cs s t) (sub : cs ⊆ ds) : OnlyCauses ds s t :=
  fun p => ⟨(h p).1, fun d hd => (h p).2 d (fun m => hd (sub m))⟩

theorem OnlyCauses.trans {cs : List Cause} {s t u : State} (h : OnlyCauses cs s t) (k : OnlyCauses cs t u) : OnlyCauses cs s u :=
  fun p => ⟨(k p).1.trans (h p).1, fun d hd => ((k p).2 d hd).trans ((h p).2 d hd)⟩

/-- An operation that touches no notice state raises no cause. -/
theorem OnlyCauses.of_only {ps : List Part} {cs : List Cause} {s t : State} (h : OnlyChanges ps s t) (hn : ∀ p, Part.notice p ∉ ps) :
    OnlyCauses cs s t := by
  intro p
  have e : t.notice p = s.notice p := by have := h (.notice p) (hn p); simpa [Part.Same] using this
  exact ⟨by rw [e], fun d _ => by rw [e]⟩

theorem RaisedExactly.causes {c : Cause} {subj : Subject} {who : Port → Prop} {s t : State} (h : RaisedExactly c subj who s t) :
    OnlyCauses [c] s t := by
  intro p
  by_cases w : who p
  · obtain ⟨a, -, d⟩ := (h p).1 w
    exact ⟨a, fun x hx => d x (by simpa using hx)⟩
  · rw [(h p).2 w]; exact ⟨rfl, fun _ _ => rfl⟩

theorem raisePresent_causes (c : Cause) (subj : Subject) (s : State) : OnlyCauses [c] s (raisePresent c subj s) :=
  (raiseSet_raises c subj _ s).causes

theorem withPool_causes (cs : List Cause) (q : Pool) (s : State) : OnlyCauses cs s { s with pool := q } :=
  OnlyCauses.of_only (withPool_only q s) (by simp)

theorem judgePool_causes (s : State) : OnlyCauses [.pool] s (judgePool s) := by
  unfold judgePool
  split
  · exact (withPool_causes _ _ s).trans (raisePresent_causes _ _ _)
  · split
    · exact (withPool_causes _ _ s).trans (raisePresent_causes _ _ _)
    · exact OnlyCauses.refl _ s

theorem release_causes (b : BufId) (s : State) : OnlyCauses [.pool] s (release b s) :=
  (OnlyCauses.of_only (modPool_only _ s) (by simp)).trans (judgePool_causes _)

theorem takeBuffer_causes (r : Request) (frame : List Byte) (s : State) : OnlyCauses [.pool] s (takeBuffer r frame s).2 := by
  have mod : ∀ f, OnlyCauses [.pool] s (modPool f s) := fun f => OnlyCauses.of_only (modPool_only f s) (by simp)
  unfold takeBuffer
  split
  · exact mod _
  · split
    · exact mod _
    · split
      · exact mod _
      · exact (mod _).trans (judgePool_causes _)

theorem tellPool_causes (s t : State) : OnlyCauses [.pool] t (tellPool s t) := fun p =>
  ⟨(tellPool_notice s t p).1, fun c hc => (tellPool_notice s t p).2.2 c (by simpa using hc)⟩

/-- An event that raises no POOL has no subject of one to fill in. -/
theorem tellPool_of_causes {cs : List Cause} {s t : State} (h : OnlyCauses cs s t) (hp : Cause.pool ∉ cs) : tellPool s t = t :=
  tellPool_same (fun p => by have := congrArg CauseRecord.subject ((h p).2 .pool hp); simpa using this)

theorem judgeVerdicts_only (s t : State) : OnlyChanges noticeParts t (judgeVerdicts s t) := by
  unfold judgeVerdicts
  split
  · exact OnlyChanges.refl _ t
  · exact raiseSet_only _ _ _ t

/-! ## Line queues and transmitters -/

theorem startLineTx_only (l : Line) (s : State) : OnlyChanges [.line l] s (startLineTx l s) := by
  unfold startLineTx
  dsimp only
  split <;> first | exact OnlyChanges.refl _ s | exact modLine_only l _ s

theorem joinLine_only (l : Line) (urgent : Bool) (e : LineEntry) (s : State) :
    OnlyChanges (.line l :: poolParts) s (joinLine l urgent e s) := by
  unfold joinLine
  split
  · split
    · exact (modLine_only l _ s).comp (release_only _ _) (by simp) (by simp)
    · exact (modLine_only l _ s).mono (by simp)
  · exact (modLine_only l _ s).mono (by simp)

theorem placeCopy_only (l : Line) (urgent : Bool) (e : LineEntry) (s : State) :
    OnlyChanges (.line l :: poolParts) s (placeCopy l urgent e s) := by
  unfold placeCopy
  split
  · exact (modLineCtr_only l _ s).mono (by simp)
  · exact ((addRef_only e.buf s).comp (joinLine_only l urgent e _) (by simp [poolParts]) (fun _ h => h)).trans
      ((startLineTx_only l _).mono (by simp))

theorem placeBoth_only (urgent : Bool) (e : LineEntry) (s : State) :
    OnlyChanges (.line .a :: .line .b :: poolParts) s (placeBoth urgent e s) :=
  (placeCopy_only .a urgent e s).comp (placeCopy_only .b urgent e _) (by intro q hq; simp at hq ⊢; tauto) (by intro q hq; simp at hq ⊢; tauto)

/-! ## Client queues and transmitters -/

theorem startClientTx_only (p : Port) (s : State) : OnlyChanges [.queues p] s (startClientTx p s) := by
  unfold startClientTx
  dsimp only
  split <;> first | exact OnlyChanges.refl _ s | exact modPort_only_queues p _ s (fun _ => rfl)

theorem joinLane_only (p : Port) (f : LaneFrame) (s : State) : OnlyChanges [.queues p] s (joinLane p f s) :=
  (modPort_only_queues p (fun x => { x with lane := x.lane ++ [f] }) s (fun _ => rfl)).trans (startClientTx_only p _)

theorem joinReply_only (p : Port) (src : Addr) (token : BitVec 32) (code : Byte) (o : RepOutcome) (body : ReplyBody) (s : State) :
    OnlyChanges [.queues p] s (joinReply p src token code o body s) := joinLane_only p _ s

theorem cutClientTx_only (p : Port) (s : State) : OnlyChanges (portParts p) s (cutClientTx p s) := by
  unfold cutClientTx
  split
  · exact OnlyChanges.refl _ s
  · exact (modPort_only p _ s).comp (releaseOpt_only _ _) (by simp [portParts]) (poolParts_port p)

theorem joinClient_only (p : Port) (urgent : Bool) (b : BufId) (s : State) : OnlyChanges (portParts p) s (joinClient p urgent b s) := by
  have hadd : OnlyChanges (portParts p) s (addRef b s) := (addRef_only b s).mono (by simp [portParts, poolParts])
  have hport : ∀ f t, OnlyChanges (portParts p) t (modPort p f t) := fun f t => (modPort_only p f t).mono (by simp [portParts])
  unfold joinClient
  split
  · split
    · exact ((hadd.trans (hport _ _)).trans ((raiseAt_only_notices _ _ p _).mono (fun q h => poolParts_port p (noticeParts_pool h)))).trans
        ((release_only _ _).mono (poolParts_port p))
    · exact hadd.trans (hport _ _)
  · exact hadd.trans (hport _ _)

theorem giveClient_only (p : Port) (urgent : Bool) (b : BufId) (s : State) : OnlyChanges (portParts p) s (giveClient p urgent b s) := by
  unfold giveClient
  split
  · exact (modPortCtr_only p _ s).mono (by simp [portParts])
  · exact (joinClient_only p urgent b s).trans ((startClientTx_only p _).mono (by simp [portParts]))

theorem present_only (p : Port) (c : Cause) (s : State) : OnlyChanges [.notice p, .queues p] s (present p c s) :=
  (modNotice_only p _ s).comp (joinLane_only p _ _) (by simp) (by simp)

theorem presentAt_only (p : Port) (s : State) : OnlyChanges [.notice p, .queues p] s (presentAt p s) := by
  unfold presentAt
  split
  · exact present_only p _ s
  · exact OnlyChanges.refl _ s

theorem presentAll_only (s : State) : OnlyChanges (noticeParts ++ queueParts) s (presentAll s) :=
  OnlyChanges.foldl _ (fun s p => (presentAt_only p s).mono (by
    intro q hq
    simp only [List.mem_cons, List.not_mem_nil, or_false] at hq
    rcases hq with rfl | rfl
    · exact List.mem_append_left _ (notice_mem p)
    · exact List.mem_append_right _ (queues_mem p))) allPorts s

/-- An event that ends in a next state ends in `t` with its verdicts judged and its notices presented, and always so. -/
theorem event_eq (f : State → State) (s : State) : event f s = .next (presentAll (judgeVerdicts s (tellPool s (f s)))) := rfl

/-- An event whose effects change no more than `ps` changes no more than `ps` and notices before its verdicts are judged. -/
theorem tellPool_frame {ps : List Part} {s t : State} (h : OnlyChanges ps s t) (hn : noticeParts ⊆ ps) : OnlyChanges ps s (tellPool s t) :=
  h.trans ((tellPool_only s t).mono hn)

/-! ## Streams -/

theorem vacate_only (i : EntryId) (s : State) : OnlyChanges [.entry i, .recency] s (vacate i s) :=
  (modEntry_only i _ s).comp (modRecency_only _ _) (by simp) (by simp)

theorem forgetEntry_only (i : EntryId) (s : State) : OnlyChanges [.entry i, .recency, .tableCtr] s (forgetEntry i s) :=
  (vacate_only i s).comp (modTableCtr_only _ _) (by simp) (by simp)

theorem listUnpinned_only (i : EntryId) (s : State) : OnlyChanges [.entry i, .recency, .tableCtr] s (listUnpinned i s) := by
  unfold listUnpinned
  split
  · split
    · exact forgetEntry_only i s
    · exact (modEntry_only i _ s).comp (modRecency_only _ _) (by simp) (by simp)
  · exact OnlyChanges.refl _ s

theorem reforget_only (i : EntryId) (s : State) : OnlyChanges [.entry i, .recency, .tableCtr] s (reforget i s) := by
  unfold reforget
  split
  · split
    · exact forgetEntry_only i s
    · exact (modEntry_only i _ s).mono (by simp)
  · exact OnlyChanges.refl _ s

theorem forEntries_only {ps : List Part} (f : EntryId → State → State) (h : ∀ i s, OnlyChanges ps s (f i s)) (s : State) :
    OnlyChanges ps s (forEntries f s) := OnlyChanges.foldl _ (fun s i => h i s) _ s

theorem takeEntry_only (s : State) : OnlyChanges tableParts s (takeEntry s).2 := by
  unfold takeEntry
  split
  · exact OnlyChanges.refl _ s
  · split
    · exact (vacate_only _ s).comp (modTableCtr_only _ _) (by simp [tableParts]) (by simp [tableParts])
    · exact OnlyChanges.refl _ s

theorem foundByArrival_only (k : Key) (x : Arrival) (s : State) : OnlyChanges tableParts s (foundByArrival k x s) := by
  have h := takeEntry_only s
  unfold foundByArrival
  split <;> rename_i heq <;> rw [heq] at h
  · exact ((h.trans ((modEntry_only _ _ _).mono (by simp [tableParts]))).trans ((modTableCtr_only _ _).mono (by simp [tableParts]))).trans
      ((modRecency_only _ _).mono (by simp [tableParts]))
  · exact h

theorem foundBySubscribe_only (k : Key) (p : Port) (hold : Nat) (s : State) : OnlyChanges tableParts s (foundBySubscribe k p hold s) := by
  have h := takeEntry_only s
  unfold foundBySubscribe
  split <;> rename_i heq <;> rw [heq] at h
  · exact (h.trans ((modEntry_only _ _ _).mono (by simp [tableParts]))).trans ((modTableCtr_only _ _).mono (by simp [tableParts]))
  · exact h

/-! ## Supervision -/

theorem raiseStream_only (c : Cause) (i : EntryId) (s : State) : OnlyChanges noticeParts s (raiseStream c i s) := raiseSet_only c _ _ s

theorem modEntry_watch (i : EntryId) (f : Entry → Entry) (s : State) : OnlyChanges (watchParts i) s (modEntry i f s) :=
  (modEntry_only i f s).mono (by simp [watchParts])

theorem modSup_watch (i : EntryId) (f : Supervision → Supervision) (s : State) : OnlyChanges (watchParts i) s (modSup f s) :=
  (modSup_only f s).mono (by simp [watchParts])

theorem raiseStream_watch (c : Cause) (i : EntryId) (s : State) : OnlyChanges (watchParts i) s (raiseStream c i s) :=
  (raiseStream_only c i s).mono (noticeParts_watch i)

theorem setHearings_only (i : EntryId) (old : Option (PerLine Hearing)) (h : PerLine Hearing) (dl : PerLine (Option Time)) (s : State) :
    OnlyChanges (watchParts i) s (setHearings i old h dl s) := by
  have h1 : OnlyChanges (watchParts i) s (match old with | some o => modSup (countOut o) s | none => s) := by
    cases old with
    | none => exact OnlyChanges.refl _ s
    | some o => exact modSup_watch i _ s
  unfold setHearings
  dsimp only
  split
  · exact (h1.trans (modEntry_watch i _ _)).trans (raiseStream_watch _ i _)
  · split
    · exact ((h1.trans (modSup_watch i _ _)).trans (modEntry_watch i _ _)).trans (raiseStream_watch _ i _)
    · exact (h1.trans (modSup_watch i _ _)).trans (modEntry_watch i _ _)

theorem silenceLine_only (i : EntryId) (l : Line) (s : State) : OnlyChanges (watchParts i) s (silenceLine i l s) := by
  unfold silenceLine
  split
  · exact setHearings_only i _ _ _ s
  · exact OnlyChanges.refl _ s

theorem lossAt_only (l : Line) (i : EntryId) (s : State) : OnlyChanges (watchParts i) s (lossAt l i s) := by
  unfold lossAt
  dsimp only
  split
  · split
    · split
      · exact OnlyChanges.refl _ s
      · exact silenceLine_only i l s
    · exact modEntry_watch i _ s
    · exact OnlyChanges.refl _ s
  · exact OnlyChanges.refl _ s

theorem hearArrival_only (i : EntryId) (l : Line) (t : Time) (s : State) : OnlyChanges (watchParts i) s (hearArrival i l t s) := by
  unfold hearArrival
  split
  · dsimp only
    split
    · exact ((modEntry_watch i _ s).trans (modSup_watch i _ _)).trans (raiseStream_watch _ i _)
    · exact modEntry_watch i _ s
  · exact OnlyChanges.refl _ s

theorem beginHearing_only (i : EntryId) (l : Line) (t : Time) (q : Bool) (s : State) :
    OnlyChanges (watchParts i) s (beginHearing i l t q s) := by
  unfold beginHearing
  split
  · dsimp only
    split
    · exact ((modEntry_watch i _ s).trans (modSup_watch i _ _)).trans (raiseStream_watch _ i _)
    · exact (modEntry_watch i _ s).trans (modSup_watch i _ _)
  · exact OnlyChanges.refl _ s

theorem quietLocal_only (i : EntryId) (s : State) : OnlyChanges (watchParts i) s (quietLocal i s) :=
  (modEntry_watch i _ s).trans (raiseStream_watch _ i _)

theorem startLocalDeadline_only (i : EntryId) (s : State) : OnlyChanges (watchParts i) s (startLocalDeadline i s) := by
  unfold startLocalDeadline
  split
  · split
    · exact quietLocal_only i s
    · exact modEntry_watch i _ s
  · exact OnlyChanges.refl _ s

theorem hearLocal_only (i : EntryId) (t : Time) (q : Bool) (s : State) : OnlyChanges (watchParts i) s (hearLocal i t q s) := by
  unfold hearLocal
  split
  · dsimp only
    split
    · exact (modEntry_watch i _ s).trans (raiseStream_watch _ i _)
    · exact modEntry_watch i _ s
  · exact OnlyChanges.refl _ s

theorem beginWatch_only (i : EntryId) (s : State) : OnlyChanges (watchParts i) s (beginWatch i s) := by
  unfold beginWatch
  dsimp only
  split
  · exact setHearings_only i _ _ _ s
  · exact OnlyChanges.refl _ s

theorem retime_only (i : EntryId) (s : State) : OnlyChanges (watchParts i) s (retime i s) := by
  unfold retime
  dsimp only
  split
  · split
    · split
      · exact OnlyChanges.refl _ s
      · split
        · exact modEntry_watch i _ s
        · split
          · exact (modEntry_watch i _ s).trans (startLocalDeadline_only i _)
          · split
            · exact (modEntry_watch i _ s).trans (setHearings_only i _ _ _ _)
            · exact modEntry_watch i _ s
    · exact OnlyChanges.refl _ s
  · exact OnlyChanges.refl _ s

theorem pinEntry_only (i : EntryId) (p : Port) (hold : Nat) (s : State) :
    OnlyChanges (.recency :: watchParts i) s (pinEntry i p hold s) := by
  have h1 : OnlyChanges (.recency :: watchParts i) s
      (modRecency (offList i) (modEntry i (fun e => { e with subs := e.subs.set p true, forgetDl := none, sup := some hold }) s)) :=
    (modEntry_watch i _ s).comp (modRecency_only _ _) (by simp) (by simp)
  unfold pinEntry
  dsimp only
  split
  · exact h1.trans ((startLocalDeadline_only i _).mono (by simp))
  · exact h1.trans ((beginWatch_only i _).mono (by simp))

theorem joinSubscribers_only (i : EntryId) (p : Port) (s : State) : OnlyChanges (watchParts i) s (joinSubscribers i p s) :=
  (modEntry_watch i _ s).trans (retime_only i _)

theorem unpinEntry_only (i : EntryId) (s : State) : OnlyChanges (.recency :: .tableCtr :: watchParts i) s (unpinEntry i s) := by
  unfold unpinEntry
  dsimp only
  split
  · have h1 : OnlyChanges (watchParts i) s (match (s.entry i).hearing with
      | some h => if (s.entry i).isLocal then s else modSup (countOut h) s
      | none => s) := by
      split
      · split
        · exact OnlyChanges.refl _ s
        · exact modSup_watch i _ s
      · exact OnlyChanges.refl _ s
    exact (h1.trans (modEntry_watch i _ _)).comp (listUnpinned_only i _) (by intro q hq; simp [hq]) (by simp [watchParts])
  · exact (vacate_only i s).mono (by simp [watchParts])

theorem leaveSubscribers_only (i : EntryId) (p : Port) (s : State) :
    OnlyChanges (.recency :: .tableCtr :: watchParts i) s (leaveSubscribers i p s) := by
  have h1 : OnlyChanges (.recency :: .tableCtr :: watchParts i) s (modEntry i (fun e => { e with subs := e.subs.set p false }) s) :=
    (modEntry_watch i _ s).mono (by intro q hq; simp [hq])
  unfold leaveSubscribers
  dsimp only
  split
  · exact h1.trans ((retime_only i _).mono (by intro q hq; simp [hq]))
  · exact h1.trans (unpinEntry_only i _)

theorem gainMark_only (i : EntryId) (s : State) : OnlyChanges (watchParts i) s (gainMark i s) := by
  have h1 : OnlyChanges (watchParts i) s (modEntry i (fun e => { e with isLocal := true, hearing := none, lineDl := ⟨none, none⟩ }) s) :=
    modEntry_watch i _ s
  unfold gainMark
  dsimp only
  split
  · split
    · exact (h1.trans (modSup_watch i _ _)).trans (startLocalDeadline_only i _)
    · exact h1.trans (startLocalDeadline_only i _)
  · exact h1

theorem loseMark_only (i : EntryId) (s : State) : OnlyChanges (watchParts i) s (loseMark i s) := by
  have h1 : OnlyChanges (watchParts i) s (modEntry i (fun e => { e with isLocal := false, localDl := none }) s) := modEntry_watch i _ s
  unfold loseMark
  dsimp only
  split
  · split
    · exact h1.trans (beginWatch_only i _)
    · exact h1.trans (modEntry_watch i _ _)
    · exact h1.trans (modEntry_watch i _ _)
    · exact h1
  · exact h1

theorem remark_only (old new : Origin) (i : EntryId) (s : State) : OnlyChanges (watchParts i) s (remark old new i s) := by
  unfold remark
  split
  · exact OnlyChanges.refl _ s
  · split
    · exact OnlyChanges.refl _ s
    · split
      · exact loseMark_only i s
      · split
        · exact gainMark_only i s
        · exact OnlyChanges.refl _ s

theorem superviseArrival_only (i : EntryId) (x : Arrival) (was : EntryState) (s : State) :
    OnlyChanges (.recency :: watchParts i) s (superviseArrival i x was s) := by
  unfold superviseArrival
  dsimp only
  split
  · split
    · exact (hearLocal_only i _ _ s).mono (by simp)
    · split
      · split
        · exact (hearArrival_only i _ _ s).mono (by simp)
        · exact (beginHearing_only i _ _ _ s).mono (by simp)
      · exact OnlyChanges.refl _ s
  · exact (modEntry_watch i _ s).comp (modRecency_only _ _) (by simp) (by simp)

theorem arriveAt_only (i : EntryId) (x : Arrival) (s : State) : OnlyChanges (.recency :: watchParts i) s (arriveAt i x s).2 := by
  have h1 := (modEntry_watch i (fun _ => ((s.entry i).judge x).1.stamp x) s).comp
    (superviseArrival_only i x (s.entry i).state _) (rs := .recency :: watchParts i) (by simp) (fun _ h => h)
  unfold arriveAt
  dsimp only
  split
  · exact h1.trans ((raiseSet_only _ _ _ _).mono (fun q h => List.mem_cons_of_mem _ (noticeParts_watch i h)))
  · exact h1

theorem recency_watch_stream (i : EntryId) : (Part.recency :: watchParts i) ⊆ streamParts := by
  intro q hq
  rcases List.mem_cons.1 hq with rfl | h
  · simp [streamParts, tableParts]
  · exact watchParts_stream i h

theorem table_watch_stream (i : EntryId) : (Part.recency :: Part.tableCtr :: watchParts i) ⊆ streamParts := by
  intro q hq
  rcases List.mem_cons.1 hq with rfl | h
  · simp [streamParts, tableParts]
  · rcases List.mem_cons.1 h with rfl | h
    · simp [streamParts, tableParts]
    · exact watchParts_stream i h

theorem localArrival_only (k : Key) (seq : Seq) (s : State) : OnlyChanges streamParts s (localArrival k seq s).2 := by
  unfold localArrival
  split
  · exact OnlyChanges.refl _ s
  · exact (arriveAt_only _ _ s).mono (recency_watch_stream _)

/-! ## Delivery and origination -/

theorem giveSet_only (urgent : Bool) (b : BufId) (ports : PerPort Bool) (s : State) : OnlyChanges deliveryParts s (giveSet urgent b ports s) :=
  OnlyChanges.foldl _ (fun s p => by
    split <;> [exact (giveClient_only p urgent b s).mono (portParts_delivery p); exact OnlyChanges.refl _ s]) allPorts s

theorem deliverSubscribers_only (c : Cls) (subs : PerPort Bool) (p : Option Port) (b : BufId) (s : State) :
    OnlyChanges deliveryParts s (deliverSubscribers c subs p b s) := giveSet_only _ b _ s

theorem deliverAddress_only (urgent : Bool) (p : Option Port) (b : BufId) (s : State) :
    OnlyChanges deliveryParts s (deliverAddress urgent p b s) := giveSet_only urgent b _ s

theorem deliverFromLine_only (l : Line) (b : BufId) (s : State) : OnlyChanges (.line l :: deliveryParts) s (deliverFromLine l b s) := by
  unfold deliverFromLine
  dsimp only
  split
  · exact (modLineCtr_only l _ s).mono (by simp)
  · exact (deliverAddress_only _ _ b s).mono (by simp)

theorem line_reception (l : Line) : (Part.line l :: deliveryParts) ⊆ receptionParts l := by
  intro q hq; simp [receptionParts] at hq ⊢; tauto
theorem pool_reception (l : Line) : poolParts ⊆ receptionParts l := fun _ h => line_reception l (List.mem_cons_of_mem _ (poolParts_delivery h))
theorem stream_reception (l : Line) : streamParts ⊆ receptionParts l := by intro q hq; simp [receptionParts, hq]
theorem lineCtr_reception (l : Line) (f : LineCounters → LineCounters) (s : State) : OnlyChanges (receptionParts l) s (modLineCtr l f s) :=
  (modLineCtr_only l f s).mono (by simp [receptionParts])

theorem takeTagged_only (l : Line) (k : Key) (seq : Seq) (b : BufId) (s : State) :
    OnlyChanges (receptionParts l) s (takeTagged l k seq b s) := by
  have hand : ∀ subs t, OnlyChanges (receptionParts l) t (match k.cls with
      | .general => deliverFromLine l b t
      | c => deliverSubscribers c subs none b t) := by
    intro subs t
    split
    · exact (deliverFromLine_only l b t).mono (line_reception l)
    · exact (deliverSubscribers_only _ subs none b t).mono (fun q h => line_reception l (List.mem_cons_of_mem _ h))
  unfold takeTagged
  refine OnlyChanges.trans ?_ ((release_only b _).mono (pool_reception l))
  split
  · exact ((foundByArrival_only k _ s).mono (fun q h => stream_reception l (tableParts_stream h))).trans (hand _ _)
  · dsimp only
    have ha := (arriveAt_only ‹EntryId› { seq := seq, line := some l, time := s.clock } s).mono
      (fun q h => stream_reception l (recency_watch_stream _ h))
    split
    · exact ha.trans (hand _ _)
    · exact ha

theorem takeLineBuffer_only (l : Line) (c : Cls) (frame : List Byte) (s : State) :
    OnlyChanges (.line l :: poolParts) s (takeLineBuffer l c frame s).2 := by
  have h := takeBuffer_only (.reception c) frame s
  unfold takeLineBuffer
  split <;> rename_i heq <;> rw [heq] at h
  · exact h.mono (by simp)
  · exact h.comp (modLineCtr_only l _ _) (by simp) (by simp)

theorem line_pool_reception (l : Line) : (Part.line l :: poolParts) ⊆ receptionParts l := by
  intro q hq
  rcases List.mem_cons.1 hq with rfl | h
  · simp [receptionParts]
  · exact pool_reception l h

theorem receiveUntagged_only (l : Line) (data : List Byte) (s : State) : OnlyChanges (receptionParts l) s (receiveUntagged l data s) := by
  have h := (takeLineBuffer_only l .general data s).mono (line_pool_reception l)
  unfold receiveUntagged
  split <;> rename_i heq <;> rw [heq] at h
  · exact h
  · exact ((h.trans (lineCtr_reception l _ _)).trans ((deliverFromLine_only l _ _).mono (line_reception l))).trans
      ((release_only _ _).mono (pool_reception l))

theorem receiveRemote_only (l : Line) (data : List Byte) (k : Key) (m : Line) (seq : Seq) (s : State) :
    OnlyChanges (receptionParts l) s (receiveRemote l data k m seq s) := by
  have h0 : OnlyChanges (receptionParts l) s (if m = l then s else modLineCtr l (fun c => { c with crossed := satInc c.crossed }) s) := by
    split
    · exact OnlyChanges.refl _ s
    · exact lineCtr_reception l _ s
  have h := (takeLineBuffer_only l k.cls (removeTag data)
    (if m = l then s else modLineCtr l (fun c => { c with crossed := satInc c.crossed }) s)).mono (line_pool_reception l)
  unfold receiveRemote
  dsimp only
  split <;> rename_i heq <;> rw [heq] at h
  · exact h0.trans h
  · exact ((h0.trans h).trans (lineCtr_reception l _ _)).trans (takeTagged_only l k seq _ _)

theorem receiveTagged_only (l : Line) (n : Nat) (data : List Byte) (s : State) :
    OnlyChanges (receptionParts l) s (receiveTagged l n data s) := by
  unfold receiveTagged
  dsimp only
  split
  · exact lineCtr_reception l _ s
  · split
    · exact lineCtr_reception l _ s
    · split
      · exact (lineCtr_reception l _ s).trans ((raisePresent_only _ _ _).mono (fun q h => stream_reception l (noticeParts_stream h)))
      · exact receiveRemote_only l data _ _ _ s

theorem receiveLine_only (l : Line) (frame : List Byte) (s : State) : OnlyChanges (receptionParts l) s (receiveLine l frame s) := by
  unfold receiveLine
  split
  · exact lineCtr_reception l _ s
  · split
    · exact receiveTagged_only l _ _ s
    · exact receiveUntagged_only l _ s

theorem takeSeq_only (p : Port) (c : Cls) (s : State) : OnlyChanges [.port p] s (takeSeq p c s) :=
  modPort_only_plain p _ s (fun _ => ⟨rfl, rfl, rfl, rfl, rfl⟩)

theorem placeBoth_send (urgent : Bool) (e : LineEntry) (s : State) : OnlyChanges sendParts s (placeBoth urgent e s) :=
  (placeBoth_only urgent e s).mono (by
    intro q hq
    rcases List.mem_cons.1 hq with rfl | h
    · exact line_mem_send .a
    · rcases List.mem_cons.1 h with rfl | h
      · exact line_mem_send .b
      · exact deliveryParts_send (poolParts_delivery h))

theorem deliverOriginated_only (p : Port) (c : Cls) (b : BufId) (r : Option (Judgement × PerPort Bool)) (s : State) :
    OnlyChanges deliveryParts s (deliverOriginated p c b r s) := by
  unfold deliverOriginated
  split
  · exact deliverAddress_only _ _ b s
  · split
    · exact deliverAddress_only _ _ b s
    · exact OnlyChanges.refl _ s
  · exact OnlyChanges.refl _ s
  · split
    · exact deliverSubscribers_only _ _ _ b s
    · exact OnlyChanges.refl _ s

theorem originateTagged_only (p : Port) (c : Cls) (b : BufId) (s : State) : OnlyChanges sendParts s (originateTagged p c b s) := by
  unfold originateTagged
  dsimp only
  exact ((((takeSeq_only p c s).mono (by intro q hq; simp at hq; subst hq; exact deliveryParts_send (port_mem_delivery p))).trans
    (placeBoth_send _ _ _)).trans ((localArrival_only _ _ _).mono streamParts_send)).trans
    ((deliverOriginated_only p c b _ _).mono deliveryParts_send)

theorem originateUntagged_only (p : Port) (c : Cls) (b : BufId) (s : State) : OnlyChanges sendParts s (originateUntagged p c b s) :=
  (placeBoth_send _ _ s).trans ((deliverAddress_only _ _ b _).mono deliveryParts_send)

theorem modPortCtr_send (p : Port) (f : PortCounters → PortCounters) (s : State) : OnlyChanges sendParts s (modPortCtr p f s) :=
  (modPortCtr_only p f s).mono (by intro q hq; simp at hq; subst hq; exact deliveryParts_send (port_mem_delivery p))

theorem originate_only (p : Port) (c : Cls) (data : List Byte) (b : BufId) (s : State) : OnlyChanges sendParts s (originate p c data b s) := by
  unfold originate
  dsimp only
  refine OnlyChanges.trans ?_ ((release_only b _).mono (fun q h => deliveryParts_send (poolParts_delivery h)))
  split
  · exact (modPortCtr_send p _ s).trans ((giveSet_only _ b _ _).mono deliveryParts_send)
  · split
    · exact (modPortCtr_send p _ s).trans (originateUntagged_only p c b _)
    · exact (modPortCtr_send p _ s).trans (originateTagged_only p c b _)

theorem takeData_only (p : Port) (data : List Byte) (s : State) : OnlyChanges sendParts s (takeData p data s) := by
  have h := (takeBuffer_only (.reception (classOf s.work (frameType data))) data
    (modPortCtr p (fun c => { c with dataIn := satInc c.dataIn }) s)).mono (fun q h => deliveryParts_send (poolParts_delivery h))
  have h0 := modPortCtr_send p (fun c => { c with dataIn := satInc c.dataIn }) s
  unfold takeData
  dsimp only
  split <;> rename_i heq <;> rw [heq] at h
  · exact (h0.trans h).trans (modPortCtr_send p _ _)
  · exact (h0.trans h).trans (originate_only p _ data _ _)

/-! ## Channels -/

theorem raiseOwner_only (c : ChanId) (f : Option ChanCause) (s : State) : OnlyChanges noticeParts s (raiseOwner c f s) := by
  unfold raiseOwner
  split
  · exact raiseAt_only_notices _ _ _ s
  · exact OnlyChanges.refl _ s

theorem failChan_only (c : ChanId) (x : ChanCause) (s : State) : OnlyChanges (.chan c :: noticeParts) s (failChan c x s) :=
  (modChan_only c _ s).comp (raiseOwner_only c _ _) (by simp) (by simp)

theorem dropNext_only (c : ChanId) (s : State) : OnlyChanges (.chan c :: poolParts) s (dropNext c s) := by
  unfold dropNext
  split
  · exact (modChan_only c _ s).comp (release_only _ _) (by simp) (by simp)
  · exact OnlyChanges.refl _ s

theorem toReady_only (c : ChanId) (s : State) : OnlyChanges (.chan c :: poolParts) s (toReady c s) :=
  ((modChan_only c _ s).mono (by simp)).trans (dropNext_only c _)

theorem chan_notice_burst (c : ChanId) : (Part.chan c :: noticeParts) ⊆ burstParts := by
  intro q hq
  rcases List.mem_cons.1 hq with rfl | h
  · simp [burstParts]
  · exact sendParts_burst (streamParts_send (noticeParts_stream h))

theorem chan_pool_burst (c : ChanId) : (Part.chan c :: poolParts) ⊆ burstParts := by
  intro q hq
  rcases List.mem_cons.1 hq with rfl | h
  · simp [burstParts]
  · exact sendParts_burst (deliveryParts_send (poolParts_delivery h))

theorem chanSendParts_burst (c : ChanId) : chanSendParts c ⊆ burstParts := by
  intro q hq
  rcases List.mem_cons.1 hq with rfl | h
  · simp [burstParts]
  · exact sendParts_burst h

theorem modChan_send (c : ChanId) (f : Channel → Channel) (s : State) : OnlyChanges (chanSendParts c) s (modChan c f s) :=
  (modChan_only c f s).mono (by simp [chanSendParts])

theorem chanSend_only (c : ChanId) (s : State) : OnlyChanges (chanSendParts c) s (chanSend c s) := by
  have hs : sendParts ⊆ chanSendParts c := by intro q hq; simp [chanSendParts, hq]
  unfold chanSend
  split
  · refine OnlyChanges.trans ?_ (modChan_send c _ _)
    split
    · exact (originateUntagged_only _ _ _ s).mono hs
    · exact (originateTagged_only _ _ _ s).mono hs
  · exact OnlyChanges.refl _ s

theorem setSendTime_only (c : ChanId) (t : Time) (s : State) : OnlyChanges [.chan c] s (setSendTime c t s) := modChan_only c _ s

theorem finishBurst_only (c : ChanId) (s : State) : OnlyChanges (.chan c :: noticeParts) s (finishBurst c s) := by
  unfold finishBurst
  split
  · exact (modChan_only c _ s).comp (raiseOwner_only c _ _) (by simp) (by simp)
  · exact (modChan_only c _ s).mono (by simp)

theorem notice_chanSend (c : ChanId) : (Part.chan c :: noticeParts) ⊆ chanSendParts c := by
  intro q hq
  rcases List.mem_cons.1 hq with rfl | h
  · simp [chanSendParts]
  · exact List.mem_cons_of_mem _ (streamParts_send (noticeParts_stream h))

theorem pool_chanSend (c : ChanId) : poolParts ⊆ chanSendParts c := by
  intro q hq
  exact List.mem_cons_of_mem _ (deliveryParts_send (poolParts_delivery hq))

theorem firstSend_only (c : ChanId) (s : State) : OnlyChanges (chanSendParts c) s (firstSend c s) :=
  (modChan_send c _ s).trans (chanSend_only c _)

theorem afterLastTemplate_only (c : ChanId) (t : Time) (s : State) : OnlyChanges (chanSendParts c) s (afterLastTemplate c t s) := by
  unfold afterLastTemplate
  split
  · exact (finishBurst_only c s).mono (notice_chanSend c)
  · exact (setSendTime_only c t s).mono (by simp [chanSendParts])

theorem endBurst_only (c : ChanId) (s : State) : OnlyChanges (chanSendParts c) s (endBurst c s) := by
  unfold endBurst
  split
  · dsimp only
    have h1 := modChan_send c (fun x => { x with cur := some ‹Template›, nxt := none, chained := satInc x.chained }) s
    split
    · exact ((h1.trans ((release_only _ _).mono (pool_chanSend c))).trans (firstSend_only c _)).trans (afterLastTemplate_only c _ _)
    · exact (h1.trans (firstSend_only c _)).trans (afterLastTemplate_only c _ _)
  · exact (finishBurst_only c s).mono (notice_chanSend c)

theorem afterSend_only (c : ChanId) (t : Time) (s : State) : OnlyChanges (chanSendParts c) s (afterSend c t s) := by
  unfold afterSend
  split
  · exact endBurst_only c s
  · exact (setSendTime_only c t s).mono (by simp [chanSendParts])

theorem beginBurst_only (c : ChanId) (s : State) : OnlyChanges (chanSendParts c) s (beginBurst c s) :=
  (firstSend_only c s).trans (afterSend_only c _ _)

theorem sendTimeExpires_only (c : ChanId) (t : Time) (s : State) : OnlyChanges (chanSendParts c) s (sendTimeExpires c t s) := by
  unfold sendTimeExpires
  split
  · split
    · exact (chanSend_only c s).trans (afterSend_only c t _)
    · exact modChan_send c _ s
  · exact (chanSend_only c s).trans (afterSend_only c t _)
  · exact ((toReady_only c s).mono (by
      intro q hq
      rcases List.mem_cons.1 hq with rfl | h
      · simp [chanSendParts]
      · exact pool_chanSend c h)).trans ((failChan_only c _ _).mono (notice_chanSend c))
  · exact OnlyChanges.refl _ s

theorem ownerLost_only (p : Port) (s : State) : OnlyChanges (.choices :: chanParts ++ poolParts) s (ownerLost p s) := by
  have hc : ∀ c, (Part.chan c :: poolParts) ⊆ (.choices :: chanParts ++ poolParts) := by
    intro c q hq
    rcases List.mem_cons.1 hq with rfl | h
    · simp
    · simp [h]
  refine OnlyChanges.trans ((noteChoice_only _ s).mono (by simp)) (OnlyChanges.foldl _ (fun t c => ?_) _ _)
  exact ((toReady_only c t).mono (hc c)).trans ((failChan_only c _ _).mono (by
    intro q hq
    rcases List.mem_cons.1 hq with rfl | h
    · simp
    · simp [noticeParts_pool h]))

theorem dropTemplate_only (t : Option Template) (s : State) : OnlyChanges poolParts s (dropTemplate t s) := by
  cases t with
  | none => exact OnlyChanges.refl _ s
  | some t => exact release_only _ s

theorem reconfigure_only (c : ChanId) (before : Option Port) (s : State) :
    OnlyChanges (.chan c :: poolParts) s (reconfigure c before s) := by
  have hp : ∀ t u, OnlyChanges (Part.chan c :: poolParts) u (dropTemplate t u) := fun t u => (dropTemplate_only t u).mono (by simp)
  have hn : ∀ subj q u, OnlyChanges (Part.chan c :: poolParts) u (raiseAt .channel subj q u) := fun subj q u =>
    (raiseAt_only_notices _ subj q u).mono (fun x h => List.mem_cons_of_mem _ (noticeParts_pool h))
  have h2 := (((modChan_only c (fun _ => { Channel.fresh with failed := some .reconfigured }) s).mono (qs := .chan c :: poolParts) (by simp)).trans
    (hp (s.chan c).cur _)).trans (hp (s.chan c).nxt _)
  have h3 : OnlyChanges (Part.chan c :: poolParts) s (match before with
      | some p => raiseAt .channel (.channel c (some .reconfigured)) p (dropTemplate (s.chan c).nxt (dropTemplate (s.chan c).cur
          (modChan c (fun _ => { Channel.fresh with failed := some .reconfigured }) s)))
      | none => dropTemplate (s.chan c).nxt (dropTemplate (s.chan c).cur
          (modChan c (fun _ => { Channel.fresh with failed := some .reconfigured }) s))) := by
    cases before with
    | none => exact h2
    | some p => exact h2.trans (hn _ p _)
  unfold reconfigure
  dsimp only
  split
  · split
    · exact h3
    · exact h3.trans (hn _ _ _)
  · exact h3

theorem risingAt_only (c : ChanId) (s : State) : OnlyChanges (chanSendParts c) s (risingAt c s) := by
  unfold risingAt
  split <;> first | exact beginBurst_only c s | exact OnlyChanges.refl _ s

theorem filteredChange_only (n : InputId) (s : State) : OnlyChanges (inputParts n) s (filteredChange n s) := by
  have h1 : ∀ f : InputLine → InputLine, OnlyChanges (inputParts n) s (modInput n f s) := fun f =>
    (modInput_only n f s).mono (by simp [inputParts])
  unfold filteredChange
  dsimp only
  split
  · refine OnlyChanges.trans ((h1 _).trans ((noteChoice_only _ _).mono (by simp [inputParts]))) (OnlyChanges.foldl _ (fun t c => ?_) _ _)
    exact (risingAt_only c t).mono (fun q h => by
      have := chanSendParts_burst c h
      simp [inputParts, this])
  · exact h1 _

theorem startFilter_only (n : InputId) (s : State) : OnlyChanges (inputParts n) s (startFilter n s) := by
  unfold startFilter
  split
  · exact filteredChange_only n s
  · exact (modInput_only n _ s).mono (by simp [inputParts])

theorem rawChange_only (n : InputId) (level : Bool) (s : State) : OnlyChanges (inputParts n) s (rawChange n level s) := by
  have h1 := (modInput_only n (fun x => { x with raw := level }) s).mono (qs := inputParts n) (by simp [inputParts])
  unfold rawChange
  dsimp only
  split
  · exact h1.trans ((modInput_only n _ _).mono (by simp [inputParts]))
  · split
    · exact h1
    · exact h1.trans (startFilter_only n _)

theorem loadChan_only (c : ChanId) (sc : Schedule) (t : List Byte) (s : State) :
    OnlyChanges (.chan c :: poolParts) s (loadChan c sc t s).2.2 := by
  have h := takeBuffer_only .template t s
  unfold loadChan
  split
  · exact OnlyChanges.refl _ s
  · split
    · exact OnlyChanges.refl _ s
    · split <;> rename_i heq <;> rw [heq] at h
      · exact h.mono (by simp)
      · exact ((h.mono (by simp)).trans ((modChan_only c _ _).mono (by simp))).trans ((dropTemplate_only _ _).mono (by simp))

theorem swapTemplate_only (c : ChanId) (b : BufId) (s : State) : OnlyChanges (.chan c :: poolParts) s (swapTemplate c b s) := by
  unfold swapTemplate
  split
  · exact (modChan_only c _ s).comp (release_only _ _) (by simp) (by simp)
  · exact OnlyChanges.refl _ s

theorem chan_pool_send (c : ChanId) : (Part.chan c :: poolParts) ⊆ chanSendParts c := by
  intro q hq
  rcases List.mem_cons.1 hq with rfl | h
  · simp [chanSendParts]
  · exact pool_chanSend c h

theorem replaceChan_only (c : ChanId) (t : List Byte) (s : State) : OnlyChanges (chanSendParts c) s (replaceChan c t s).2.2 := by
  have h := (takeBuffer_only .template t s).mono (pool_chanSend c)
  unfold replaceChan
  dsimp only
  split
  · exact OnlyChanges.refl _ s
  · split
    · exact OnlyChanges.refl _ s
    · split
      · exact OnlyChanges.refl _ s
      · split <;> rename_i heq <;> rw [heq] at h
        · exact h
        · dsimp only
          have h2 := h.trans ((swapTemplate_only c ‹BufId› ‹State›).mono (chan_pool_send c))
          split
          · exact h2.trans (beginBurst_only c _)
          · exact h2

theorem chainChan_only (c : ChanId) (sc : Schedule) (t : List Byte) (s : State) :
    OnlyChanges (.chan c :: poolParts) s (chainChan c sc t s).2.2 := by
  have h := takeBuffer_only .template t s
  unfold chainChan
  split
  · exact OnlyChanges.refl _ s
  · split
    · exact OnlyChanges.refl _ s
    · split <;> rename_i heq <;> rw [heq] at h
      · exact h.mono (by simp)
      · exact ((h.mono (by simp)).trans ((modChan_only c _ _).mono (by simp))).trans ((dropTemplate_only _ _).mono (by simp))

theorem clearChan_only (c : ChanId) (s : State) : OnlyChanges [.chan c] s (clearChan c s).2.2 := modChan_only c _ s

theorem startRun_only (c : ChanId) (s : State) : OnlyChanges (chanSendParts c) s (startRun c s) := by
  unfold startRun
  split
  · exact beginBurst_only c s
  · exact modChan_send c _ s
  · dsimp only
    split
    · exact (modChan_send c _ s).trans (beginBurst_only c _)
    · exact modChan_send c _ s

theorem startChan_only (c : ChanId) (s : State) : OnlyChanges (chanSendParts c) s (startChan c s).2.2 := by
  unfold startChan
  split
  · exact (failChan_only c _ s).mono (notice_chanSend c)
  · split
    · exact (failChan_only c _ s).mono (notice_chanSend c)
    · split
      · exact (failChan_only c _ s).mono (notice_chanSend c)
      · exact startRun_only c s
  · exact OnlyChanges.refl _ s

theorem stopChan_only (c : ChanId) (s : State) : OnlyChanges (.chan c :: poolParts) s (stopChan c s).2.2 := by
  unfold stopChan
  split
  · exact (modChan_only c _ s).mono (by simp)
  · exact (toReady_only c s).trans ((failChan_only c _ _).mono (by
      intro q hq
      rcases List.mem_cons.1 hq with rfl | h
      · simp
      · simp [noticeParts_pool h]))
  · exact OnlyChanges.refl _ s

/-! ## Client ports -/

theorem restartWindow_only (p : Port) (s : State) : OnlyChanges [.port p] s (restartWindow p s) :=
  modPort_only_plain p _ s (fun _ => ⟨rfl, rfl, rfl, rfl, rfl⟩)

theorem flushPort_only (p : Port) (s : State) : OnlyChanges (portParts p) s (flushPort p s) :=
  (modPort_only p _ s).comp (releaseAll_only _ _) (by simp [portParts]) (poolParts_port p)

theorem raisePeer_only (p : Port) (b : Bool) (r : PeerReason) (s : State) : OnlyChanges noticeParts s (raisePeer p b r s) :=
  raiseSet_only _ _ _ s

theorem becomeAbsent_only (p : Port) (r : PeerReason) (s : State) : OnlyChanges (absentParts p) s (becomeAbsent p r s) := by
  have hport : portParts p ⊆ absentParts p := by intro q hq; simp [absentParts, hq]
  have hn : noticeParts ⊆ absentParts p := fun q h => hport (poolParts_port p (noticeParts_pool h))
  unfold becomeAbsent
  dsimp only
  refine OnlyChanges.trans ?_ ((raisePeer_only p _ _ _).mono hn)
  refine OnlyChanges.trans ?_ ((ownerLost_only p _).mono (by
    intro q hq
    simp only [List.cons_append, List.mem_cons, List.mem_append] at hq
    rcases hq with rfl | h | h
    · simp [absentParts]
    · simp [absentParts, h]
    · exact hport (poolParts_port p h)))
  refine OnlyChanges.trans ?_ ((modProposals_only _ _).mono (by simp [absentParts]))
  refine OnlyChanges.trans ?_ ((modNotice_only p _ _).mono (by intro q hq; simp at hq; subst hq; exact hn (notice_mem p)))
  exact (((modPort_only p _ s).mono (by intro q hq; exact hport (by simp at hq; rcases hq with rfl | rfl <;> simp [portParts]))).trans
    ((cutClientTx_only p _).mono hport)).trans ((flushPort_only p _).mono hport)

theorem becomePresent_only (p : Port) (r : PeerReason) (s : State) : OnlyChanges (.port p :: noticeParts) s (becomePresent p r s) :=
  ((modPort_only_plain p (fun x => { x with present := true }) s (fun _ => ⟨rfl, rfl, rfl, rfl, rfl⟩)).trans
    (restartWindow_only p _)).comp (raisePeer_only p _ _ _) (by simp) (by simp)

theorem modSubs_only (p : Port) (f : List Subscription → List Subscription) (s : State) :
    OnlyChanges (listParts p) s (modPort p (fun x => { x with subs := f x.subs }) s) :=
  (modPort_only_plain p (fun x => { x with subs := f x.subs }) s (fun _ => ⟨rfl, rfl, rfl, rfl, rfl⟩)).mono (qs := listParts p) (by simp [listParts])

theorem stream_list (p : Port) : streamParts ⊆ listParts p := fun _ h => List.mem_cons_of_mem _ h

theorem addKey_only (p : Port) (k : Key) (hold : Nat) (s : State) : OnlyChanges (listParts p) s (addKey p k hold s) := by
  have h1 := modSubs_only p (fun xs => xs ++ [{ key := k, hold := hold }]) s
  unfold addKey
  dsimp only
  split
  · exact h1.trans ((foundBySubscribe_only k p hold _).mono (fun q h => stream_list p (tableParts_stream h)))
  · split
    · exact h1.trans ((joinSubscribers_only _ p _).mono (fun q h => stream_list p (watchParts_stream _ h)))
    · exact h1.trans ((pinEntry_only _ p hold _).mono (fun q h => stream_list p (recency_watch_stream _ h)))

theorem replaceHold_only (p : Port) (k : Key) (hold : Nat) (s : State) : OnlyChanges (listParts p) s (replaceHold p k hold s) := by
  have h1 := modSubs_only p (fun xs => xs.map (fun m => if m.key = k then { m with hold := hold } else m)) s
  unfold replaceHold
  dsimp only
  split
  · exact h1.trans ((retime_only _ _).mono (fun q h => stream_list p (watchParts_stream _ h)))
  · exact h1

theorem removeKey_only (p : Port) (k : Key) (s : State) : OnlyChanges (listParts p) s (removeKey p k s) := by
  have h1 := modSubs_only p (fun xs => xs.filter (fun m => decide (m.key ≠ k))) s
  unfold removeKey
  dsimp only
  split
  · exact h1.trans ((leaveSubscribers_only _ p _).mono (fun q h => stream_list p (table_watch_stream _ h)))
  · exact h1

theorem clearList_only (p : Port) (s : State) : OnlyChanges (listParts p) s (clearList p s) :=
  OnlyChanges.foldl (fun s (m : Subscription) => removeKey p m.key s) (fun s m => removeKey_only p m.key s) _ s

theorem subscribeAt_only (p : Port) (w : Word16) (hold : BitVec 32) (s : State) : OnlyChanges (listParts p) s (subscribeAt p w hold s).state := by
  have key : ∀ k, OnlyChanges (listParts p) s (if holdsKey s p k then
        ({ outcome := .done, body := subscribedBody p k (clampHold hold) (replaceHold p k (clampHold hold) s),
           state := replaceHold p k (clampHold hold) s } : Answer)
      else if Config.listPlaces ≤ (s.port p).subs.length then
        { outcome := .limit, body := .subscribe none (s.port p).subs.length, state := s }
      else { outcome := .done, body := subscribedBody p k (clampHold hold) (addKey p k (clampHold hold) s),
             state := addKey p k (clampHold hold) s }).state := by
    intro k
    split
    · dsimp only; exact replaceHold_only p k (clampHold hold) s
    · split
      · dsimp only; exact OnlyChanges.refl (listParts p) s
      · dsimp only; exact addKey_only p k (clampHold hold) s
  unfold subscribeAt
  by_cases h1 : validOrigin (keyOrigin w) = false
  · rw [if_pos h1]; exact OnlyChanges.refl (listParts p) s
  · rw [if_neg h1]
    cases keyClass w with
    | none => exact OnlyChanges.refl (listParts p) s
    | some c =>
      cases c with
      | general => exact OnlyChanges.refl (listParts p) s
      | sampled => exact key _
      | trip => exact key _

theorem unsubscribeAt_only (p : Port) (w : Word16) (s : State) : OnlyChanges (listParts p) s (unsubscribeAt p w s).state := by
  unfold unsubscribeAt
  by_cases h1 : validOrigin (keyOrigin w) = false
  · rw [if_pos h1]; exact OnlyChanges.refl (listParts p) s
  · rw [if_neg h1]
    cases keyClass w with
    | none => exact OnlyChanges.refl (listParts p) s
    | some c =>
      dsimp only
      split
      · dsimp only; exact removeKey_only p _ s
      · dsimp only; exact OnlyChanges.refl (listParts p) s

end Sys2Proof
end

