-- ==== Sys2Proof/Laws/Commands.lean ====
section
/-! SUPPORT. How a client command is taken: the port once its control frame has been taken, the REPLY that joins the lane, and the end of the event. -/

namespace Sys2Proof

open Sys2Proof.Machine

/-! ## The end of an event -/

/-- Where neither a link state nor a count changes, no verdict does, and no LINE is raised (R79). -/
theorem judgeVerdicts_same {s t : State} (hl : ∀ l, (t.line l).link = (s.line l).link) (hs : t.sup = s.sup) : judgeVerdicts s t = t := by
  have h : ∀ l, verdict s l = verdict t l := fun l => by simp [verdict, hl l, hs]
  simp [judgeVerdicts, h]

theorem judgeVerdicts_of_only {ps : List Part} {s t : State} (h : OnlyChanges ps s t) (hl : ∀ l, Part.line l ∉ ps) (hs : Part.sup ∉ ps) :
    judgeVerdicts s t = t :=
  judgeVerdicts_same (fun l => congrArg LinePort.link (h (.line l) (hl l))) (h .sup hs)

/-! ## A frame joins the lane (R97, R99) -/

theorem startClientTx_other (p q : Port) (s : State) (h : q ≠ p) : (startClientTx p s).port q = s.port q := by
  unfold startClientTx
  dsimp only
  split <;> first | rfl | exact modPort_port_other p q _ s h

theorem joinLane_port (p : Port) (f : LaneFrame) (s : State) (up : (s.port p).linkUp = true) : Joined f (s.port p) ((joinLane p f s).port p) := by
  refine ⟨fun ht => ?_, fun ht hu hl => ?_⟩
  · obtain ⟨t, ht⟩ := Option.isSome_iff_exists.1 ht
    simp [joinLane, startClientTx, up, ht]
  · simp [joinLane, startClientTx, up, ht, hu, hl]

theorem joinLane_port_other (p q : Port) (f : LaneFrame) (s : State) (h : q ≠ p) : (joinLane p f s).port q = s.port q := by
  unfold joinLane
  rw [startClientTx_other p q _ h, modPort_port_other p q _ s h]

/-! ## The port once its control frame has been taken -/

/-- The state in which a PRESENT port's command is run: its frame counted, its source kept, its window restarted. -/
def attendedState (p : Port) (src : Addr) (s : State) : State :=
  restartWindow p (modPort p (fun x => { x with lastSrc := src }) (modPortCtr p (fun k => { k with controlIn := satInc k.controlIn }) s))

/-- The state in which an ABSENT port's command is run: its frame counted, its source kept. -/
def absentState (p : Port) (src : Addr) (s : State) : State :=
  modPort p (fun x => { x with lastSrc := src }) (modPortCtr p (fun k => { k with controlIn := satInc k.controlIn }) s)

theorem absentState_only (p : Port) (src : Addr) (s : State) : OnlyChanges [.port p] s (absentState p src s) :=
  (modPortCtr_only p _ s).trans
    (modPort_only_plain p (fun x => { x with lastSrc := src }) _ (fun _ => ⟨rfl, rfl, rfl, rfl, rfl⟩))

theorem attendedState_only (p : Port) (src : Addr) (s : State) : OnlyChanges [.port p] s (attendedState p src s) :=
  (absentState_only p src s).trans (restartWindow_only p _)

@[simp] theorem attendedState_port (p : Port) (src : Addr) (s : State) : (attendedState p src s).port p = attended p src s := by
  simp [attendedState, restartWindow, attended, windowEnd, State.work, modPortCtr]

theorem attendedState_port_other (p q : Port) (src : Addr) (s : State) (h : q ≠ p) : (attendedState p src s).port q = s.port q := by
  simp [attendedState, restartWindow, modPortCtr, h]

theorem frameTaken_of_open {p : Port} {s : State} (h : LaneOpen p s) : frameTaken p s = true := by simp [frameTaken, h.1, h.2.1]

/-- A control frame of a PRESENT port with room in its lane: the command is run in `attendedState`, and its REPLY joins the lane. -/
theorem commandEvent_present (p : Port) (src : Addr) (token : BitVec 32) (c : Command) (s : State) (h : Commands p s) :
    commandEvent p src token c s = .next (presentAll (judgeVerdicts s (tellPool s
      (match (runCommand p c (attendedState p src s)).1 with
       | some (o, body) => joinReply p src token c.code o body (runCommand p c (attendedState p src s)).2
       | none => (runCommand p c (attendedState p src s)).2)))) := by
  have hroom : ¬ Config.lanePlaces ≤ ((modPortCtr p (fun k => { k with controlIn := satInc k.controlIn }) s).port p).lane.length := by
    have := h.1.2.2
    simp [modPortCtr] at this ⊢
    exact this
  have hp : ((modPortCtr p (fun k => { k with controlIn := satInc k.controlIn }) s).port p).present = true := by
    simp [modPortCtr, h.2]
  rw [commandEvent, if_pos (frameTaken_of_open h.1), event_eq, controlFrame]
  rw [if_neg hroom, takeCommand, if_pos hp]
  rfl

/-- A control frame of an ABSENT port with room in its lane. -/
theorem commandEvent_absent (p : Port) (src : Addr) (token : BitVec 32) (c : Command) (s : State) (h : LaneOpen p s)
    (ha : (s.port p).present = false) :
    commandEvent p src token c s = .next (presentAll (judgeVerdicts s (tellPool s
      (match (runAbsent p c (absentState p src s)).1 with
       | some (o, body) => joinReply p src token c.code o body (runAbsent p c (absentState p src s)).2
       | none => (runAbsent p c (absentState p src s)).2)))) := by
  have hroom : ¬ Config.lanePlaces ≤ ((modPortCtr p (fun k => { k with controlIn := satInc k.controlIn }) s).port p).lane.length := by
    have := h.2.2
    simp [modPortCtr] at this ⊢
    exact this
  have hp : ¬ ((modPortCtr p (fun k => { k with controlIn := satInc k.controlIn }) s).port p).present = true := by
    simp [modPortCtr, ha]
  rw [commandEvent, if_pos (frameTaken_of_open h), event_eq, controlFrame]
  rw [if_neg hroom, takeCommand, if_neg hp]
  rfl

/-! ## Commands that answer without touching another port's queues -/

/-- A command of a PRESENT port whose run changes no link state and no count, sets no POOL subject, and leaves its own port as its attendance left it: it is answered, and
nothing else changes than its run's parts, the port and its queues. -/
theorem commandEvent_answered (p : Port) (src : Addr) (token : BitVec 32) (c : Command) (s : State) (h : Commands p s)
    (o : RepOutcome) (body : ReplyBody) (ps : List Part)
    (hr : (runCommand p c (attendedState p src s)).1 = some (o, body))
    (hp : (runCommand p c (attendedState p src s)).2.port p = attended p src s)
    (ho : OnlyChanges ps (attendedState p src s) (runCommand p c (attendedState p src s)).2)
    (hl : ∀ l, Part.line l ∉ ps) (hs : Part.sup ∉ ps)
    (hb : ∀ q, ((runCommand p c (attendedState p src s)).2.notice q).poolSubject = (s.notice q).poolSubject) :
    ∃ u, commandEvent p src token c s = .next (presentAll u) ∧ Answered p src token c.code o body s u ∧
      u = joinReply p src token c.code o body (runCommand p c (attendedState p src s)).2 ∧
      OnlyChanges (.port p :: .queues p :: ps) s u := by
  refine ⟨joinReply p src token c.code o body (runCommand p c (attendedState p src s)).2, ?_, ?_, rfl, ?_⟩
  · rw [commandEvent_present p src token c s h, hr]
    refine congrArg _ (congrArg _ ?_)
    have hall : OnlyChanges (.port p :: .queues p :: ps) s (joinReply p src token c.code o body (runCommand p c (attendedState p src s)).2) :=
      ((attendedState_only p src s).mono (by simp)).trans ((ho.mono (by intro q hq; simp [hq])).trans
        ((joinReply_only p src token c.code o body _).mono (by simp)))
    simp only
    have hkept : ∀ q, ((joinReply p src token c.code o body (runCommand p c (attendedState p src s)).2).notice q).poolSubject = (s.notice q).poolSubject := by
      intro q
      rw [← hb q]
      exact congrArg NoticeUnit.poolSubject (joinReply_only p src token c.code o body _ (.notice q) (by simp))
    rw [tellPool_same hkept]
    refine judgeVerdicts_of_only hall ?_ ?_
    · intro l; simp [hl l]
    · simp [hs]
  · have hup : ((runCommand p c (attendedState p src s)).2.port p).linkUp = true := by rw [hp]; exact h.1.1
    have := joinLane_port p { dst := src, src := (runCommand p c (attendedState p src s)).2.work.address.get p,
                              type := (runCommand p c (attendedState p src s)).2.work.controlType,
                              content := .reply token c.code o body } (runCommand p c (attendedState p src s)).2 hup
    rw [hp] at this
    have hw := joinReply_only p src token c.code o body (runCommand p c (attendedState p src s)).2 .work (by simp)
    simp only [Part.Same] at hw
    simp only [Answered, replyFrame]
    rw [hw]
    exact this
  · exact ((attendedState_only p src s).mono (by simp)).trans ((ho.mono (by intro q hq; simp [hq])).trans
        ((joinReply_only p src token c.code o body _).mono (by simp)))

end Sys2Proof
end

