-- ==== Sys2Proof/Laws/PerInstr.lean ====
section
/-! SUPPORT. Statements for all commands, one lemma per constructor. -/

namespace Sys2Proof.Laws

open Sys2Proof Sys2Proof.Machine

/-- A row that a client's control frame carries has one of the sixteen codes of R178, and is well formed exactly when the frame that carries it is. -/
def Encoding.Statement (i : Instr) : Prop :=
  ∀ (p : Port) (src : Addr) (token : BitVec 32) (c : Command), asInstr p src token c = some i →
    1 ≤ c.code.toNat ∧ c.code.toNat ≤ 16 ∧ c.wf = i.wf

theorem Encoding.every (i : Instr) : Encoding.Statement i := by
  intro p src token c h
  cases c <;> cases h <;> exact ⟨by simp [Command.code], by simp [Command.code], rfl⟩

theorem Encoding.powerOn (raw : Vector Bool Config.nInputs) :
    Encoding.Statement (.powerOn raw) := Encoding.every _

theorem Encoding.imageReadCompletion (memory : Option (List Byte)) :
    Encoding.Statement (.imageReadCompletion memory) := Encoding.every _

theorem Encoding.lineFrameCompletion (l : Line) (frame : List Byte) :
    Encoding.Statement (.lineFrameCompletion l frame) := Encoding.every _

theorem Encoding.lineLinkUp (l : Line) :
    Encoding.Statement (.lineLinkUp l) := Encoding.every _

theorem Encoding.settleTimerExpiry (l : Line) :
    Encoding.Statement (.settleTimerExpiry l) := Encoding.every _

theorem Encoding.lineLinkLoss (l : Line) :
    Encoding.Statement (.lineLinkLoss l) := Encoding.every _

theorem Encoding.lineTransmissionCompletion (l : Line) :
    Encoding.Statement (.lineTransmissionCompletion l) := Encoding.every _

theorem Encoding.lineDeadlineExpiry (e : Fin Config.nEntries) (l : Line) :
    Encoding.Statement (.lineDeadlineExpiry e l) := Encoding.every _

theorem Encoding.localDeadlineExpiry (e : Fin Config.nEntries) :
    Encoding.Statement (.localDeadlineExpiry e) := Encoding.every _

theorem Encoding.forgetDeadlineExpiry (e : Fin Config.nEntries) :
    Encoding.Statement (.forgetDeadlineExpiry e) := Encoding.every _

theorem Encoding.clientLinkUp (p : Port) :
    Encoding.Statement (.clientLinkUp p) := Encoding.every _

theorem Encoding.clientLinkLoss (p : Port) :
    Encoding.Statement (.clientLinkLoss p) := Encoding.every _

theorem Encoding.clientFrameCompletion (p : Port) (frame : List Byte) :
    Encoding.Statement (.clientFrameCompletion p frame) := Encoding.every _

theorem Encoding.clientTransmissionCompletion (p : Port) :
    Encoding.Statement (.clientTransmissionCompletion p) := Encoding.every _

theorem Encoding.attendanceWindowExpiry (p : Port) :
    Encoding.Statement (.attendanceWindowExpiry p) := Encoding.every _

theorem Encoding.hello (p : Port) (src : Addr) (token : BitVec 32) (fresh : Bool) :
    Encoding.Statement (.hello p src token fresh) := Encoding.every _

theorem Encoding.keep (p : Port) (src : Addr) (token : BitVec 32) :
    Encoding.Statement (.keep p src token) := Encoding.every _

theorem Encoding.restartPort (p : Port) (src : Addr) (token : BitVec 32) :
    Encoding.Statement (.restartPort p src token) := Encoding.every _

theorem Encoding.subscribe (p : Port) (src : Addr) (token : BitVec 32) (key : Word16) (hold : BitVec 32) :
    Encoding.Statement (.subscribe p src token key hold) := Encoding.every _

theorem Encoding.unsubscribe (p : Port) (src : Addr) (token : BitVec 32) (key : Word16) :
    Encoding.Statement (.unsubscribe p src token key) := Encoding.every _

theorem Encoding.load (p : Port) (src : Addr) (token : BitVec 32) (chan : Byte) (tmin tmax n len : Word16) (data : List Byte) :
    Encoding.Statement (.load p src token chan tmin tmax n len data) := Encoding.every _

theorem Encoding.start (p : Port) (src : Addr) (token : BitVec 32) (chan : Byte) :
    Encoding.Statement (.start p src token chan) := Encoding.every _

theorem Encoding.stop (p : Port) (src : Addr) (token : BitVec 32) (chan : Byte) :
    Encoding.Statement (.stop p src token chan) := Encoding.every _

theorem Encoding.replace (p : Port) (src : Addr) (token : BitVec 32) (chan : Byte) (len : Word16) (data : List Byte) :
    Encoding.Statement (.replace p src token chan len data) := Encoding.every _

theorem Encoding.chain (p : Port) (src : Addr) (token : BitVec 32) (chan : Byte) (tmin tmax n len : Word16) (data : List Byte) :
    Encoding.Statement (.chain p src token chan tmin tmax n len data) := Encoding.every _

theorem Encoding.clear (p : Port) (src : Addr) (token : BitVec 32) (chan : Byte) :
    Encoding.Statement (.clear p src token chan) := Encoding.every _

theorem Encoding.sendTimeExpiry (c : Fin Config.nChannels) :
    Encoding.Statement (.sendTimeExpiry c) := Encoding.every _

theorem Encoding.rawLevelChange (n : Fin Config.nInputs) (level : Bool) :
    Encoding.Statement (.rawLevelChange n level) := Encoding.every _

theorem Encoding.pendingChangeExpiry (n : Fin Config.nInputs) :
    Encoding.Statement (.pendingChangeExpiry n) := Encoding.every _

theorem Encoding.propose (p : Port) (src : Addr) (token : BitVec 32) (item index : Byte) (len : Word16) (data : List Byte) :
    Encoding.Statement (.propose p src token item index len data) := Encoding.every _

theorem Encoding.proposalExpiry (item : Item) :
    Encoding.Statement (.proposalExpiry item) := Encoding.every _

theorem Encoding.withdraw (p : Port) (src : Addr) (token : BitVec 32) (item index : Byte) :
    Encoding.Statement (.withdraw p src token item index) := Encoding.every _

theorem Encoding.enable (p : Port) (src : Addr) (token : BitVec 32) (causes : Word16) :
    Encoding.Statement (.enable p src token causes) := Encoding.every _

theorem Encoding.ack (p : Port) (src : Addr) (token : BitVec 32) (cause : Byte) :
    Encoding.Statement (.ack p src token cause) := Encoding.every _

theorem Encoding.query (p : Port) (src : Addr) (token : BitVec 32) (kind arg1 arg2 : Byte) :
    Encoding.Statement (.query p src token kind arg1 arg2) := Encoding.every _

end Sys2Proof.Laws
end

