-- ==== Sys2Proof/Tests/Slice0.lean ====
section
/-! SUPPORT. Tests: ill-formed commands refused, words and frames written out from the manual's layouts, worked examples of the manual, single steps, and for each
statement of Certificates/Slice0/Obligations.lean a state and operands that meet its hypotheses (`witness_<statement>`). -/

namespace Sys2Proof.Tests

open Sys2Proof Sys2Proof.Machine

-- One theorem after another: theorems evaluated side by side would each hold a thread and its memory.
set_option Elab.async false

/-- Zero bytes. -/
def zeros (n : Nat) : List Byte := List.replicate n 0#8

/-! ## Well-formedness: a term that each check refuses, and the bounds that it takes (R103, R168) -/

theorem test_wf_load_short : Instr.wf (.load .cp1 0 0 0 2 1000 12 0 (zeros 29)) = false := by decide
theorem test_wf_load_long : Instr.wf (.load .cp1 0 0 0 2 1000 12 0 (zeros 1483)) = false := by decide +kernel
theorem test_wf_replace_short : Instr.wf (.replace .cp1 0 0 0 0 (zeros 29)) = false := by decide
theorem test_wf_chain_long : Instr.wf (.chain .cp1 0 0 0 2 1000 12 0 (zeros 1483)) = false := by decide +kernel
theorem test_wf_propose_short : Instr.wf (.propose .cp1 0 0 7 0 2 (zeros 35)) = false := by decide
theorem test_wf_propose_long : Instr.wf (.propose .cp1 0 0 7 0 2 (zeros 1489)) = false := by decide +kernel
theorem test_wf_bounds : Instr.wf (.load .cp1 0 0 0 2 1000 12 0 (zeros 30)) = true ∧ Instr.wf (.replace .cp1 0 0 0 0 (zeros 1482)) = true ∧
    Instr.wf (.propose .cp1 0 0 7 0 2 (zeros 36)) = true ∧ Instr.wf (.propose .cp1 0 0 7 0 2 (zeros 1488)) = true := by decide +kernel
theorem test_wf_unknown_listed : Command.wf (.unknown 0x10) = false ∧ Command.wf (.unknown 0x01) = false := by decide
theorem test_wf_unknown : Command.wf (.unknown 0) = true ∧ Command.wf (.unknown 0x11) = true := by decide

/-! ## Formats -/

/-- The table gives no row any bits. -/
theorem test_no_table_word : decodeTableWord 32 0 = none ∧ State.reset.withFetchWord 32 0 = State.reset := ⟨rfl, rfl⟩

/-- The frame check of the nine digits is the published check value CBF43926 hex of this CRC, sent as R3 says. -/
theorem test_frame_check : frameCheck [0x31, 0x32, 0x33, 0x34, 0x35, 0x36, 0x37, 0x38, 0x39] = [0x26, 0x39, 0xF4, 0xCB] := by decide +kernel

/-- The image CRC of the nine digits is the published check value 29B1 hex of this CRC (R157). -/
theorem test_image_crc : crc16 [0x31, 0x32, 0x33, 0x34, 0x35, 0x36, 0x37, 0x38, 0x39] = 0x29B1#16 := by decide +kernel

/-- Origin 230, class SAMPLED, line B, spare 0: 0000 1110 0110, 01, 1, 0 (R177). -/
theorem test_tag_word : tagWord 230 .sampled .b = 0b0000_1110_0110_01_1_0#16 := by decide

/-- The same word read: origin, class and line (R177). -/
theorem test_tag_read : keyOrigin 0x0E66 = 230 ∧ keyClass 0x0E66 = some .sampled ∧ keyLine 0x0E66 = .b ∧ keyClass 0x0E6C = none := by decide

/-- The group bit is the least significant bit of the first byte (R91). -/
theorem test_multicast : isMulticast 0x01_0C_CD_01_00_01 = true ∧ isMulticast 0x02_00_00_00_00_01 = false ∧
    isMulticast 0xFF_FF_FF_FF_FF_FF = true := by decide

/-- Destination 02-00-00-00-00-01, source 02-00-00-00-00-02, type 89E3, a code, a reserved byte, token 00001234 (R178). -/
def head (code : Byte) : List Byte := [2, 0, 0, 0, 0, 1, 2, 0, 0, 0, 0, 2, 0x89, 0xE3, code, 0, 0, 0, 0x12, 0x34]

theorem test_decode_hello : decodeControl (head 0x01 ++ [1] ++ zeros 39) = (0x020000000002, 0x1234, .hello true) := by decide
theorem test_decode_keep : decodeCommand (head 0x02 ++ zeros 40) = .keep := by decide
theorem test_decode_restart : decodeCommand (head 0x03 ++ zeros 40) = .restartPort := by decide
theorem test_decode_subscribe : decodeCommand (head 0x04 ++ [0x0E, 0x64, 0, 0, 0x03, 0xE8] ++ zeros 34) = .subscribe (keyWord 230 .sampled) 1000 := by decide
theorem test_decode_unsubscribe : decodeCommand (head 0x05 ++ [0x01, 0x18] ++ zeros 38) = .unsubscribe (keyWord 17 .trip) := by decide
theorem test_decode_load : decodeCommand (head 0x06 ++ [3, 0, 0, 2, 0x03, 0xE8, 0, 12, 0, 1, 0xAA] ++ zeros 29) =
    .load 3 2 1000 12 1 (0xAA :: zeros 29) := by decide
theorem test_decode_start_stop_clear : decodeCommand (head 0x07 ++ [5] ++ zeros 39) = .start 5 ∧ decodeCommand (head 0x08 ++ [5] ++ zeros 39) = .stop 5 ∧
    decodeCommand (head 0x0B ++ [5] ++ zeros 39) = .clear 5 := by decide
theorem test_decode_replace : decodeCommand (head 0x09 ++ [3, 0, 9, 9, 9, 9, 9, 9, 0, 1, 0xAA] ++ zeros 29) = .replace 3 1 (0xAA :: zeros 29) := by decide
theorem test_decode_chain : decodeCommand (head 0x0A ++ [3, 0, 0, 2, 0x03, 0xE8, 0, 12, 0, 1, 0xAA] ++ zeros 29) =
    .chain 3 2 1000 12 1 (0xAA :: zeros 29) := by decide
theorem test_decode_propose : decodeCommand (head 0x0C ++ [1, 2, 0, 2, 0, 17] ++ zeros 34) = .propose 1 2 2 (0 :: 17 :: zeros 34) := by decide
theorem test_decode_withdraw : decodeCommand (head 0x0D ++ [9, 7] ++ zeros 38) = .withdraw 9 7 := by decide
theorem test_decode_enable : decodeCommand (head 0x0E ++ [0x0F, 0xFF] ++ zeros 38) = .enable 0x0FFF := by decide
theorem test_decode_ack_query : decodeCommand (head 0x0F ++ [7] ++ zeros 39) = .ack 7 ∧ decodeCommand (head 0x10 ++ [5, 9, 3] ++ zeros 37) = .query 5 9 3 := by
  decide
theorem test_decode_unlisted : decodeCommand (head 0x11 ++ zeros 40) = .unknown 0x11 := by decide

/-- Settings image: one record SETTLE = 0 with its CRC behind it is read; a record that runs past the memory's end makes it unreadable (R157). -/
theorem test_image_record : readImage (some ([0, 1, 7, 0, 0, 2, 0, 0] ++ bytes16 (crc16 [0, 1, 7, 0, 0, 2, 0, 0]))) = some ([⟨7, 0, [0, 0]⟩], true) ∧
    readImage (some [0, 1, 7, 0, 0, 9, 0, 0]) = none ∧ readImage none = none := by decide +kernel

/-! ## Acceptance: the worked sequence of section 3.11 -/

/-- The entry at the start of section 3.11, t0 taken as 0. -/
def sampled230 : Entry :=
  { Entry.vacant with
    key := some ⟨230, .sampled⟩, state := .live, subs := ⟨true, false, false⟩, sup := some 4, hearing := some ⟨.heard, .heard⟩,
    record := some { high := 65530, window := [0, 2, 5] }, ctr := { EntryCounters.zero with accepted := 40 } }

/-- Its arrivals, in order. -/
def arrivals : List Arrival :=
  [⟨3, some .a, 0⟩, ⟨65529, some .b, 30⟩, ⟨3, some .b, 80⟩, ⟨65479, some .a, 120⟩, ⟨65475, some .a, 150⟩, ⟨65479, some .b, 410⟩, ⟨4, some .a, 500⟩,
   ⟨4, some .a, 520⟩, ⟨4, some .b, 700⟩]

/-- The entry after the first `n` arrivals. -/
def afterArrivals (n : Nat) : Entry := (arrivals.take n).foldl (fun e x => (e.judge x).1) sampled230

/-- Accepted, duplicate, stale, out-of-order, missed, echoes, stale run, as the table of section 3.11 gives them. -/
def row (e : Entry) : List Nat :=
  [e.ctr.accepted.toNat, e.ctr.duplicate.toNat, e.ctr.stale.toNat, e.ctr.outOfOrder.toNat, e.ctr.missed.toNat, e.ctr.echoes.toNat, e.staleRun]

theorem test_worked_counters : (List.range 10).map (fun n => row (afterArrivals n)) =
    [[40, 0, 0, 0, 0, 0, 0], [41, 0, 0, 0, 8, 0, 0], [42, 0, 0, 1, 7, 0, 0], [42, 1, 0, 1, 7, 0, 0], [43, 1, 0, 2, 6, 0, 0], [43, 1, 1, 2, 6, 0, 1],
     [43, 2, 1, 2, 6, 0, 1], [44, 2, 1, 2, 6, 0, 0], [44, 3, 1, 2, 6, 1, 0], [44, 4, 1, 2, 6, 1, 0]] := by decide +kernel

theorem test_worked_window : (afterArrivals 4).record = some { high := 3, window := [0, 9, 10, 11, 14, 60] } ∧ (afterArrivals 7).pair = some ⟨4, .a, 500⟩ ∧
    (afterArrivals 6).lastSkew = some 290 ∧ (afterArrivals 6).pair = none ∧ (afterArrivals 9).lastSkew = some 200 ∧ (afterArrivals 9).maxSkew = some 290 := by
  decide +kernel

/-- The limits of R44: 32767 is ahead, 32768 is stale, 63 behind is judged by the window, 64 behind is stale. -/
theorem test_classify_limits : classify { high := 100, window := [0] } (100 + 32767) = .ahead ∧ classify { high := 100, window := [0] } (100 + 32768) = .stale ∧
    classify { high := 100, window := [0, 63] } 37 = .duplicate ∧ classify { high := 100, window := [0] } 37 = .outOfOrder ∧
    classify { high := 100, window := [0] } 36 = .stale := by decide +kernel

/-! ## The schedule: the example of R137 -/

theorem test_gaps : (List.range 10).map (gap ⟨2, 1000, 12⟩) = [2, 4, 8, 16, 32, 64, 128, 256, 512, 1000] ∧ nextIndex ⟨2, 1000, 12⟩ 9 = 9 ∧
    nextIndex ⟨2, 1000, 12⟩ 8 = 9 ∧ nextIndex ⟨1, 60000, 0⟩ 16 = 16 ∧ nextIndex ⟨1, 60000, 0⟩ 15 = 16 := by decide +kernel

/-! ## Small states -/

/-- A line port that is UP and idle, and one that is sending from buffer 0. -/
def lineUp : LinePort := .fresh .up none
def lineBusy : LinePort := { lineUp with tx := some ⟨0, true, []⟩ }

/-- A PRESENT client port, idle. -/
def portHere : ClientPort := { ClientPort.fresh true none with present := true, window := some 1000001 }

/-- One second after STARTING, both lines UP, every client PRESENT, every table empty. -/
def base : State :=
  { State.reset with clock := 1000000, starting := false, lines := ⟨lineUp, lineUp⟩, ports := ⟨portHere, portHere, portHere⟩ }

/-- The state after one step that takes a command; the state itself if there is none. -/
def after (c : Instr) (s : State) : State :=
  match step { s with pending := [c] } with
  | .next t => t
  | _ => s

/-- A state with its settings changed. -/
def withWork (f : Settings → Settings) (s : State) : State := { s with settings := { s.settings with work := f s.settings.work } }

/-- A state with one entry, number 0, and a recency list. -/
def withEntry (e : Entry) (recency : List EntryId) (s : State) : State :=
  { s with table := { Table.fresh with entries := updAt Table.fresh.entries 0 (fun _ => e), recency := recency } }

/-- A state with channel 0 changed, owned by CP1. -/
def withChan (x : Channel) (s : State) : State :=
  withWork (fun w => { w with owner := w.owner.set 0 (some .cp1), tripSet := [0x88B8] }) { s with chans := s.chans.set 0 x }

/-- A template frame: multicast, type 88B8, 64 bytes. -/
def goose : List Byte := [1, 0x0C, 0xCD, 1, 0, 1, 2, 0, 0, 0, 0, 2, 0x88, 0xB8] ++ zeros 50

/-- A state in which buffer 0 holds `goose` once. -/
def withBuffer (s : State) : State :=
  { s with pool := { Pool.fresh with bufs := Pool.fresh.bufs.set 0 { count := 1, frame := goose }, free := 447 } }

/-- A template in buffer 0. -/
def tmpl (tmin tmax n : Nat) : Template := ⟨0, ⟨tmin, tmax, n⟩⟩

theorem count_buffers (q : Nat → Bool) : ((List.finRange Config.nBuffers).filter (fun b => q b.val)).length = (List.range Config.nBuffers).countP q := by
  rw [← List.countP_eq_length_filter, ← List.map_coe_finRange_eq_range, List.countP_map]; rfl

/-- The pool part of `PoolSound`. -/
def fits (q : Pool) : Prop :=
  q.free = ((List.finRange Config.nBuffers).filter (fun b => decide ((q.bufs.get b).count = 0))).length ∧
    (q.low = true → q.free ≤ 64) ∧ (q.low = false → 33 ≤ q.free)

/-- A state whose pool fits, and whose ports hold no POOL subject. -/
theorem pool_sound (s : State) (h : fits s.pool) (hn : ∀ p, (s.notice p).poolSubject = none := by intro p; cases p <;> rfl) : PoolSound s :=
  ⟨h.1, h.2.1, h.2.2, fun p low => by rw [hn p]; simp⟩

theorem base_fits : fits base.pool := by
  have h : ∀ b : BufId, decide ((base.pool.bufs.get b).count = 0) = true := by
    intro b; simp [base, State.reset, State.powerOn, Pool.fresh, Vector.get_eq_getElem]
  unfold fits
  simp only [h]
  rw [count_buffers (fun _ => true)]
  decide +kernel

theorem base_pool : PoolSound base := pool_sound base base_fits

theorem buffer_fits (s : State) : fits (withBuffer s).pool := by
  have h : ∀ b : BufId, decide (((Pool.fresh.bufs.set 0 { count := 1, frame := goose }).get b).count = 0) = decide (b.val ≠ 0) := by
    intro b
    simp only [Vector.get_eq_getElem, Vector.getElem_set]
    by_cases hb : b.val = 0 <;> simp [hb, Pool.fresh, eq_comm]
  unfold fits withBuffer
  simp only [h]
  rw [count_buffers (fun b => decide (b ≠ 0))]
  decide +kernel

/-- A pool with `n` free buffers, LOW up to 64: around its reserve of 32, about to be AMPLE, and empty. -/
def poolWith (n : Nat) : Pool :=
  { Pool.fresh with
    bufs := Vector.ofFn (fun b => if b.val < n then { count := 0, frame := [] } else { count := 1, frame := goose }), free := n, low := decide (n ≤ 32 ∨ n = 64) }

theorem poolWith_fits (n : Nat) (h : n ∈ [0, 1, 32, 33, 64]) : fits (poolWith n) := by
  have hb : ∀ b : BufId, decide (((poolWith n).bufs.get b).count = 0) = decide (b.val < n) := by
    intro b
    simp only [poolWith, Vector.get_eq_getElem, Vector.getElem_ofFn]
    by_cases hb : b.val < n <;> simp [hb]
  unfold fits
  simp only [hb]
  rw [count_buffers (fun b => decide (b < n))]
  show n = _ ∧ (decide (n ≤ 32 ∨ n = 64) = true → n ≤ 64) ∧ (decide (n ≤ 32 ∨ n = 64) = false → 33 ≤ n)
  clear hb
  revert n
  decide +kernel

theorem poolWith_counts (s : State) (n : Nat) (h : n ∈ [0, 1, 32, 33, 64]) (hn : ∀ p, (s.notice p).poolSubject = none := by intro p; cases p <;> rfl) :
    PoolSound { s with pool := poolWith n } :=
  have hf := poolWith_fits n h
  ⟨hf.1, hf.2.1, hf.2.2, fun p low => by have := hn p; simp only [State.notice] at this ⊢; rw [this]; simp⟩

theorem withEntry_entry (e : Entry) (r : List EntryId) (s : State) (j : EntryId) :
    (withEntry e r s).entry j = if j = 0 then e else Entry.vacant := by
  show (updAt Table.fresh.entries 0 (fun _ => e)).get j = _
  rw [updAt_get]
  split
  · rfl
  · simp [Table.fresh, Vector.get]

theorem vacant_sound : EntrySound Entry.vacant :=
  ⟨fun _ => rfl, fun h => absurd rfl h, by decide, nofun, by simp [Entry.vacant], by decide, by decide, nofun, nofun, by decide, by decide, by decide⟩

/-- A table of one sound entry is sound. -/
theorem withEntry_sound (e : Entry) (r : List EntryId) (s : State) (k : Key) (he : EntrySound e) (hk : e.key = some k)
    (hl : e.isLocal = true ↔ ∃ p, s.work.origin.get p = k.origin)
    (hr : (r = [0] ∧ e.state = .live ∧ e.pinned = false) ∨ (r = [] ∧ ¬ (e.state = .live ∧ e.pinned = false))) : TableSound (withEntry e r s) := by
  refine ⟨fun i => ?_, fun i j k hi hj => ?_, fun i k' hi => ?_, ?_, fun i => ?_⟩
  · rw [withEntry_entry]; split
    · exact he
    · exact vacant_sound
  · rw [withEntry_entry] at hi hj
    split at hi <;> split at hj <;> simp_all [Entry.vacant]
  · rw [withEntry_entry] at hi ⊢
    split at hi
    · rw [hk] at hi; cases hi; rw [if_pos ‹_›]; exact hl
    · simp [Entry.vacant] at hi
  · rcases hr with ⟨rfl, -, -⟩ | ⟨rfl, -⟩ <;> simp [withEntry]
  · rw [withEntry_entry]
    rcases hr with ⟨rfl, h1, h2⟩ | ⟨rfl, h⟩ <;> simp only [withEntry] <;> split <;> simp_all [Entry.vacant]

/-- The entries of such a table that a test counts. -/
theorem withEntry_num (f : Entry → Bool) (hf : f Entry.vacant = false) (e : Entry) (r : List EntryId) (s : State) :
    numEntries f (withEntry e r s) = (f e).toNat := by
  unfold numEntries
  simp only [withEntry_entry]
  show ((List.finRange (511 + 1)).countP (fun i : Fin (511 + 1) => f (if i = 0 then e else Entry.vacant))) = _
  rw [List.finRange_succ, List.countP_cons, List.countP_map]
  rw [List.countP_eq_zero.2 (by intro i _; simp [Fin.succ_ne_zero, hf])]
  by_cases h : f e <;> simp [h]

/-- The counts of such a table agree where they are those of its entry. -/
theorem withEntry_agree (e : Entry) (r : List EntryId) (s : State) :
    CountsAgree { withEntry e r s with sup := ⟨⟨(e.inSilent .a).toNat, (e.inSilent .b).toNat⟩, e.inLive.toNat⟩ } :=
  ⟨fun l => by cases l <;> exact (withEntry_num _ rfl e r s).symm, (withEntry_num _ rfl e r s).symm⟩

/-- No two lines are such that one is SILENT and the other not HEARD. -/
theorem not_lost (h : PerLine Hearing) (hh : (h.a = .silent → h.b = .heard) ∧ (h.b = .silent → h.a = .heard)) : ¬ LostOn h := by
  rintro ⟨l, h1, h2⟩
  cases l
  · exact h2 (hh.1 h1)
  · exact h2 (hh.2 h1)

theorem base_commands : Commands .cp1 base := ⟨⟨rfl, rfl, by decide⟩, rfl⟩

/-! ## Single steps -/

theorem tick_clock (s : State) : (tick s).clock = s.clock + 1 :=
  noteChoice_only (dueCommands { s with clock := s.clock + 1 }) { s with clock := s.clock + 1 } .clock (by simp)

/-- A step with nothing waiting counts one microsecond (R176). -/
theorem test_tick : step base = .next (tick base) ∧ (tick base).clock = 1000001 := ⟨rfl, by rw [tick_clock]; decide⟩

/-- POWER_ON with contact 2 closed: link DOWN, the contact's raw level high, the filtered level low (R151, R166). -/
theorem test_power_on : ((after (.powerOn #v[false, false, true, false]) base).line .a).link = .down ∧
    ((after (.powerOn #v[false, false, true, false]) base).input 2).raw = true ∧
    ((after (.powerOn #v[false, false, true, false]) base).input 2).filtered = false := by decide +kernel

/-- An image memory that gives no answer: UNREADABLE, and STARTING ends (R158). -/
theorem test_image_unreadable : (after (.imageReadCompletion none) { base with starting := true }).settings.status = .unreadable ∧
    (after (.imageReadCompletion none) { base with starting := true }).starting = false := by decide +kernel

/-- A short line frame is counted bad check and nothing else (R3). -/
theorem test_bad_check : ((after (.lineFrameCompletion .b (zeros 63)) base).line .b).ctr = { LineCounters.zero with badCheck := 1 } := by decide +kernel

/-- A link-up starts the settle timer, and its expiry before SETTLE has run does not happen (R10, R11). -/
theorem test_line_up : ((after (.lineLinkUp .a) { base with lines := ⟨.fresh .down none, lineUp⟩ }).line .a).settleStart = some 1000000 ∧
    ((after (.settleTimerExpiry .a) { base with lines := ⟨{ lineUp with link := .settling, settleStart := some 1 }, lineUp⟩ }).line .a).link = .settling := by
  decide +kernel

/-- A SETTLE of 1000 ms has run out 1000000 microseconds after its start (R11). -/
theorem test_settled :
    ((after (.settleTimerExpiry .a) { base with lines := ⟨{ lineUp with link := .settling, settleStart := some 0 }, lineUp⟩ }).line .a).link = .up := by
  decide +kernel

/-- A completed urgent transmission is counted (R15). -/
theorem test_line_sent : ((after (.lineTransmissionCompletion .a) { base with lines := ⟨lineBusy, lineUp⟩ }).line .a).ctr =
    { LineCounters.zero with txUrgent := 1 } := by decide +kernel

/-- A watched entry with both lines HEARD. -/
def heardBoth : Entry :=
  { sampled230 with lastAny := some 996000, lastArr := ⟨some 996000, some 996000⟩, lineDl := ⟨some 1000000, some 1000000⟩ }

/-- Line A's deadline expires with line B HEARD: SILENT on A, LIVE, silent[A] 1, STREAM_SINGLE at the subscriber (R67). -/
theorem test_line_deadline :
    let t := after (.lineDeadlineExpiry 0 .a) { withEntry heardBoth [] base with sup := ⟨⟨0, 0⟩, 1⟩ }
    (t.entry 0).hearing = some ⟨.silent, .heard⟩ ∧ (t.entry 0).state = .live ∧ t.sup = ⟨⟨1, 0⟩, 1⟩ ∧
      ((t.notice .cp1).slot.map Prod.fst) = some .line ∧ ((t.notice .cp1).of .streamSingle).pending = true := by decide +kernel

/-- A local entry's deadline expires (R73), and an unpinned entry's forget deadline (R36). -/
theorem test_local_deadline :
    ((after (.localDeadlineExpiry 0) (withEntry { sampled230 with isLocal := true, hearing := none, localDl := some 1000000 } [] base)).entry 0).state = .quiet :=
  by decide +kernel

theorem test_forget : (after (.forgetDeadlineExpiry 0) (withEntry { sampled230 with subs := ⟨false, false, false⟩, forgetDl := some 999999 } [0] base)).table.ctr =
    ⟨0, 0, 0, 1⟩ := by decide +kernel

/-- A client's link comes up, ABSENT still (R102); its loss while PRESENT makes it ABSENT (R108); its window's end as well (R106). -/
theorem test_client_link : ((after (.clientLinkUp .cp1) State.reset).port .cp1).linkUp = true ∧ ((after (.clientLinkUp .cp1) State.reset).port .cp1).present = false ∧
    ((after (.clientLinkLoss .cp1) base).port .cp1).present = false ∧
    ((after (.attendanceWindowExpiry .cp1) { base with clock := 1000001 }).port .cp1).ctr.lapses = 1 := by decide +kernel

/-- PEER goes to the other present ports with its reason, and to them alone (R116). -/
theorem test_peer : ((after (.clientLinkLoss .cp1) base).notice .cp2).slot = some (.peer, 1) ∧
    ((after (.clientLinkLoss .cp1) base).notice .cp1).slot = none := by decide +kernel

/-- A short client frame is counted bad check (R103). -/
theorem test_client_bad_check : ((after (.clientFrameCompletion .cp1 (zeros 63)) base).port .cp1).ctr = { PortCounters.zero with badCheck := 1 } := by
  decide +kernel

/-- A client transmission completes (R99). -/
theorem test_client_sent :
    ((after (.clientTransmissionCompletion .cp1) { base with ports := ⟨{ portHere with tx := some ⟨.lane, none, []⟩ }, portHere, portHere⟩ }).port .cp1).ctr =
      { PortCounters.zero with txLane := 1 } := by decide +kernel

/-- HELLO from an ABSENT port makes it PRESENT with a window of 500 ms; KEEP restarts it (R105, R106). -/
theorem test_hello_keep :
    ((after (.hello .cp1 7 1 false) { base with ports := ⟨.fresh true none, portHere, portHere⟩ }).port .cp1).window = some 1500000 ∧
    ((after (.keep .cp1 7 1) base).port .cp1).window = some 1500000 := by decide +kernel

/-- RESTART_PORT raises PEER twice at another present port, one notice with a count of 2 (R109). -/
theorem test_restart_port : ((after (.restartPort .cp1 7 1) base).notice .cp2).slot = some (.peer, 2) := by decide +kernel

/-- An OPEN entry of (17, TRIP) whose one subscriber is CP1, with a hold time of 2 ms. -/
def openTrip : Entry := { Entry.vacant with key := some ⟨17, .trip⟩, state := .opened, subs := ⟨true, false, false⟩, sup := some 2, hearing := some ⟨.unheard, .unheard⟩ }

/-- SUBSCRIBE to origin 4001 or to class GENERAL adds nothing (R118); the last UNSUBSCRIBE frees an OPEN entry (R28). -/
theorem test_subscribe : ((after (.subscribe .cp1 7 1 (keyWord 4001 .trip) 0) base).port .cp1).subs = [] ∧
    ((after (.subscribe .cp1 7 1 (keyWord 17 .general) 0) base).port .cp1).subs = [] := by decide +kernel

theorem test_unsubscribe : ((after (.unsubscribe .cp1 7 1 0x0118) { withEntry openTrip [] base with ports := ⟨{ portHere with subs := [⟨⟨17, .trip⟩, 2⟩] }, portHere, portHere⟩ }).entry 0).state =
    .vacant := by decide +kernel

/-- LOAD makes the owner's channel READY with the clamped schedule (R131, R132). -/
theorem test_load : ((after (.load .cp1 7 1 0 0 0xFFFF 12 64 goose) (withChan Channel.fresh base)).chan 0).cur = some ⟨0, ⟨1, 60000, 12⟩⟩ := by decide +kernel

/-- A LOAD that makes the pool LOW and releases its old template: POOL has the free count after the step, 33, and not the 32 of the crossing (R87). -/
theorem test_pool_free :
    ((after (.load .cp1 7 1 0 2 1000 12 64 goose) (withChan { Channel.fresh with state := .ready, cur := some ⟨40, ⟨2, 1000, 12⟩⟩ } { base with pool := poolWith 33 })).notice
      .cp2).of .pool = { pending := false, count := 0, subject := some (.pool true (some 33)), enabled := true } := by decide +kernel

/-- A CHANNEL snapshot's template has its type in four bytes; a REPLY's free body stays within 1486 (R177, R178). -/
theorem test_formats : putTemplate ⟨64, 7, 0x88B8, ⟨2, 1000, 12⟩⟩ = [0, 64, 0, 0, 0, 0, 0, 7, 0, 0, 0x88, 0xB8, 0, 0, 0, 2, 0, 0, 3, 0xE8, 0, 0, 0, 12] ∧
    (putBody (.channel 8 none)).length ≤ 1486 := by
  refine ⟨by decide, ?_⟩
  simp only [putBody, List.length_append, List.length_take, List.length_cons, List.length_nil, bodyLimit]
  omega

/-- START of a COMMAND channel sends at once and sets the send time Tmin ahead (R136, R137, R142). -/
theorem test_start : let t := after (.start .cp1 7 1 0) (withChan { Channel.fresh with state := .ready, cur := some (tmpl 2 1000 12) } (withBuffer base))
    (t.chan 0).state = .sending ∧ (t.chan 0).sendTime = some 1002000 ∧ (t.chan 0).k = 1 := by decide +kernel

/-- STOP of an ARMED channel, CLEAR of its flag, and CHAIN to a SENDING one (R134, R135, R143). -/
theorem test_stop_clear : ((after (.stop .cp1 7 1 0) (withChan { Channel.fresh with state := .armed, cur := some (tmpl 2 1000 12) } base)).chan 0).failed = some .stopped ∧
    ((after (.clear .cp1 7 1 0) (withChan { Channel.fresh with finished := true, failed := some .stopped } base)).chan 0) = Channel.fresh := by decide +kernel

/-- A SENDING channel with twelve sends, its send time due. -/
def sending : Channel := { Channel.fresh with state := .sending, cur := some (tmpl 2 1000 12), k := 1, sendCount := 1, sendTime := some 1000000 }

theorem test_chain : ((after (.chain .cp1 7 1 0 2 1000 3 64 goose) (withChan sending (withBuffer base))).chan 0).nxt = some ⟨1, ⟨2, 1000, 3⟩⟩ := by decide +kernel

/-- REPLACE in SENDING sends the new template at once (R133). -/
theorem test_replace : ((after (.replace .cp1 7 1 0 64 goose) (withChan sending (withBuffer base))).chan 0).sendTime = some 1002000 := by decide +kernel

/-- The second send falls due: the next is 4 ms on (R137). -/
theorem test_send_time : ((after (.sendTimeExpiry 0) (withChan sending (withBuffer base))).chan 0).sendTime = some 1004000 ∧
    ((after (.sendTimeExpiry 0) (withChan sending (withBuffer base))).chan 0).k = 2 := by decide +kernel

/-- A contact closes: pending for 4 ms; going back cancels it; the expiry makes the rising edge (R149, R150). -/
theorem test_input : ((after (.rawLevelChange 1 true) base).input 1).change = some 1004000 ∧
    ((after (.rawLevelChange 1 false) { base with inputs := base.inputs.set 1 ⟨true, false, some 1004000, 0, 0, 0⟩ }).input 1).cancelled = 1 ∧
    ((after (.pendingChangeExpiry 1) { base with inputs := base.inputs.set 1 ⟨true, false, some 1000000, 0, 0, 0⟩ }).input 1).rising = 1 := by decide +kernel

/-- PROPOSE of ORIGIN(CP2) = 17 from CP1 stands (R159). -/
theorem test_propose : (after (.propose .cp1 7 1 1 2 2 (0 :: 17 :: zeros 34)) base).settings.proposals = [⟨.cp1, .origin .cp2 17, 3000000⟩] := by decide +kernel

/-- PROPOSE of SETTLE = 50 ms from CP3 commits the proposal of CP1 (R162); WITHDRAW from CP1 removes it (R161). -/
def proposed : State := { base with settings := { base.settings with proposals := [⟨.cp1, .settle 50, 2000000⟩] } }

theorem test_commit : (after (.propose .cp3 7 1 7 0 2 (0 :: 50 :: zeros 34)) proposed).work.settle = 50 ∧
    (after (.withdraw .cp1 7 1 7 0) proposed).settings.proposals = [] := by decide +kernel

/-- A proposal lapses (R160). -/
theorem test_lapse : (after (.proposalExpiry .settle) { base with settings := { base.settings with proposals := [⟨.cp1, .settle 9, 1000000⟩] } }).settings.fig =
    ⟨0, 0, 1, 0⟩ := by decide +kernel

/-- ENABLE, ACK and QUERY (R172, R174, R175). -/
theorem test_notice_commands : ((after (.enable .cp1 7 1 1) base).notice .cp1).causesWith CauseRecord.enabled = [.imageFault] ∧
    ((after (.ack .cp1 7 1 0) { base with notices := ⟨{ NoticeUnit.fresh with slot := some (.peer, 1) }, .fresh, .fresh⟩ }).notice .cp1).slot = none ∧
    ((after (.query .cp1 7 1 7 0 0) base).port .cp1).tx.isSome = true := by decide +kernel

/-! ## Witnesses: states and operands that meet the hypotheses of each statement -/

theorem base_entry (j : EntryId) : base.entry j = Entry.vacant := by
  simp [State.entry, base, State.reset, State.powerOn, Table.fresh, Vector.get_eq_getElem]

theorem withCheck_matches (d : List Byte) : checkMatches (withCheck d) = true := by
  simp [checkMatches, withCheck, frameData, frameCheck]

theorem withCheck_data (d : List Byte) : frameData (withCheck d) = d := by simp [withCheck, frameData, frameCheck]

theorem withCheck_length (d : List Byte) : (withCheck d).length = d.length + 4 := by simp [withCheck, frameCheck]

/-- A line frame of origin 17 and sequence 5 with `n` bytes before its tag is put in. -/
def lineFrame (c : Cls) (m : Line) (n : Nat) : List Byte := withCheck (insertTag 0x89E2#16 ⟨17, c, 5⟩ m (zeros n))

/-- The shortest and the longest one are tagged frames. -/
theorem lineFrame_tagged (c : Cls) (m : Line) (n : Nat) (h : n = 60 ∨ n = 1512) : Tagged 0x89E2#16 ⟨17, c⟩ m 5 (lineFrame c m n) := by
  unfold Tagged lineFrame
  rw [withCheck_length, withCheck_data, withCheck_matches]
  rcases h with rfl | rfl <;> cases m <;> cases c <;> decide +kernel

/-- An untagged line frame of 64 or 1522 bytes, to the multicast address of `goose` or to a unicast one. -/
theorem untagged_short : Untagged 0x89E2#16 (withCheck (zeros 60)) := by
  unfold Untagged; rw [withCheck_length, withCheck_data, withCheck_matches]; decide +kernel
theorem untagged_long : Untagged 0x89E2#16 (withCheck (goose ++ zeros 1454)) := by
  unfold Untagged; rw [withCheck_length, withCheck_data, withCheck_matches]; decide +kernel

theorem base_listens : ∀ l, Listens l base := by intro l; cases l <;> exact ⟨by decide, rfl⟩
theorem base_remote : ∀ p, base.work.origin.get p ≠ 17 := by intro p; cases p <;> decide

theorem witness_StepTakesFront : { base with pending := [.lineLinkUp .a, .lineLinkLoss .b] }.pending = .lineLinkUp .a :: [.lineLinkLoss .b] := rfl

theorem witness_IdleStepCounts : base.pending = [] ∧ ProposalsSound base := ⟨rfl, by decide, by decide, by decide⟩

/-- SETTLE is committed by the PROPOSE of a second port, and HELLO makes a port PRESENT. -/
theorem witness_SettingsNeedTwoPorts : ∃ t, exec (.propose .cp3 7 1 7 0 2 (0 :: 50 :: zeros 34)) proposed = .next t ∧ t.work ≠ proposed.work :=
  ⟨_, rfl, fun h => absurd (congrArg Settings.settle h) (by decide +kernel)⟩

/-- A PROPOSE of RESTART that commits takes the clock back. -/
def restartProposed : State := { base with settings := { base.settings with proposals := [⟨.cp1, .restart, 2000000⟩] } }
theorem witness_ClockKept : ∃ t, exec (.propose .cp3 7 1 12 0 0 (zeros 36)) restartProposed = .next t ∧ t.clock = 0 := ⟨_, rfl, by decide +kernel⟩

theorem witness_PresentByHello : ∃ t, exec (.hello .cp1 7 1 true) { base with ports := ⟨.fresh true none, portHere, portHere⟩ } = .next t ∧
    (State.port { base with ports := ⟨.fresh true none, portHere, portHere⟩ } .cp1).present = false ∧ (t.port .cp1).present = true := ⟨_, rfl, rfl, by decide +kernel⟩

/-- The invariants: a state in which each holds and a step is taken. -/
theorem witness_LinesStaySound : LineQueuesFit base ∧ LineLinksBusy base ∧ ∃ t, step base = .next t :=
  ⟨by intro l; cases l <;> decide, by intro l; cases l <;> decide, _, rfl⟩

theorem witness_PortsStaySound : ClientQueuesFit base ∧ ClientLinksBusy base ∧ AttendanceSound base ∧ ∃ t, step base = .next t :=
  ⟨by intro p; cases p <;> decide, by intro p; cases p <;> decide, by intro p; cases p <;> decide, _, rfl⟩

theorem base_origin (k : Key) (h : k.origin ≠ 0) : false = true ↔ ∃ p, base.work.origin.get p = k.origin :=
  ⟨nofun, fun ⟨p, hp⟩ => by cases p <;> exact absurd hp.symm h⟩

theorem base_settings : SettingsLegal base := by
  refine ⟨by intro p; cases p <;> decide, by intro p q; cases p <;> cases q <;> decide, ?_, by decide, by decide, by decide, by decide, by decide, by decide⟩
  intro p n h; cases p <;> cases h <;> decide

/-- A watched LIVE entry with a line HEARD and a running deadline for each line that is not SILENT is sound. -/
theorem heardBoth_sound : EntrySound heardBoth :=
  ⟨nofun, fun _ => ⟨by decide, _, rfl, by decide, by decide⟩, by decide, nofun, fun _ => ⟨rfl, _, rfl, rfl, by decide, by decide⟩, by decide, by decide,
   fun _ h hh => by cases hh; exact ⟨not_lost _ (by decide), by intro l; cases l <;> decide⟩, nofun, by decide, by decide, by decide⟩

theorem witness_TableStaysSound :
    let s := { withEntry heardBoth [] base with sup := ⟨⟨0, 0⟩, 1⟩ }
    TableSound s ∧ CountsAgree s ∧ SettingsLegal s ∧ StartingIdle s ∧ ∃ t, step s = .next t :=
  ⟨withEntry_sound _ _ _ _ heardBoth_sound rfl (base_origin _ (by decide)) (.inr ⟨rfl, by decide⟩), withEntry_agree heardBoth [] base, base_settings, nofun, _, rfl⟩

/-- CP1's channel 0 READY, its template in buffer 0, which nothing else holds. -/
theorem buffers_held : BuffersHeld (withChan { Channel.fresh with state := .ready, cur := some (tmpl 2 1000 12) } (withBuffer base)) := by
  intro b
  have hc : ∀ c : ChanId, (withChan { Channel.fresh with state := .ready, cur := some (tmpl 2 1000 12) } (withBuffer base)).chan c =
      if c = 0 then { Channel.fresh with state := .ready, cur := some (tmpl 2 1000 12) } else Channel.fresh := by decide +kernel
  unfold references
  simp only [hc]
  show (((Pool.fresh.bufs.set 0 { count := 1, frame := goose }).get b).count) = _
  by_cases hb : b = 0
  · subst hb; decide +kernel
  · have h0 : (0 : Fin 448) ≠ b := fun h => hb h.symm
    have h1 : ((Pool.fresh.bufs.set 0 { count := 1, frame := goose }).get b).count = 0 := by
      simp only [Vector.get_eq_getElem, Vector.getElem_set]
      rw [if_neg (fun h => hb (Fin.ext h.symm))]; simp [Pool.fresh]
    rw [h1]
    have h2 : ((List.finRange Config.nChannels).map (fun c : ChanId =>
        same ((if c = 0 then { Channel.fresh with state := .ready, cur := some (tmpl 2 1000 12) } else Channel.fresh).cur.map Template.buf) (some b) +
        same ((if c = 0 then { Channel.fresh with state := .ready, cur := some (tmpl 2 1000 12) } else Channel.fresh).nxt.map Template.buf) (some b))).sum = 0 := by
      rw [List.sum_eq_zero_iff]
      intro x hx
      simp only [List.mem_map] at hx
      obtain ⟨c, -, rfl⟩ := hx
      split <;> simp [Channel.fresh, tmpl, same, h0]
    rw [h2]
    simp [allLines, allPorts, State.line, State.port, withChan, withWork, withBuffer, base, lineUp, LinePort.fresh, portHere, ClientPort.fresh, same, PerLine.get, PerPort.get]

theorem witness_PoolStaysCounted :
    let s := withChan { Channel.fresh with state := .ready, cur := some (tmpl 2 1000 12) } (withBuffer base)
    PoolSound s ∧ BuffersHeld s ∧ ChannelsSound s ∧ ∃ t, step s = .next t := by
  refine ⟨pool_sound _ (buffer_fits base), buffers_held, fun c => ?_, _, rfl⟩
  have hc : (withChan { Channel.fresh with state := .ready, cur := some (tmpl 2 1000 12) } (withBuffer base)).chan c =
      if c = 0 then { Channel.fresh with state := .ready, cur := some (tmpl 2 1000 12) } else Channel.fresh := by revert c; decide +kernel
  rw [hc]
  split <;> simp [ChannelSound, ScheduleLegal, tmpl, Channel.fresh]

theorem witness_StartingStaysIdle : State.reset.starting = true ∧ StartingIdle State.reset ∧ ∃ t, step State.reset = .next t :=
  ⟨rfl, fun _ => ⟨by intro p; cases p <;> rfl, by decide +kernel, fun i => congrArg Entry.state (base_entry i)⟩, _, rfl⟩

theorem witness_ProposalsStaySound : ProposalsSound proposed ∧ ∃ t, step proposed = .next t := ⟨⟨by decide, by decide, by decide⟩, _, rfl⟩

/-- CP1 with a list of two keys, their hold times the least and the greatest. -/
def portLists : ClientPort := { portHere with subs := [⟨⟨17, .trip⟩, 2⟩, ⟨⟨18, .trip⟩, 65535⟩] }
def withPort (x : ClientPort) (s : State) : State := { s with ports := ⟨x, portHere, portHere⟩ }

/-- CP1 with `xs` and CP2 with `ys` as their lists, and the one entry `e` with the counts that it gives. -/
def withLists (xs ys : List Subscription) (e : Entry) (r : List EntryId) : State :=
  { withEntry e r base with
    ports := ⟨{ portHere with subs := xs }, { portHere with subs := ys }, portHere⟩,
    sup := ⟨⟨(e.inSilent .a).toNat, (e.inSilent .b).toNat⟩, e.inLive.toNat⟩ }

/-- The lists agree with a table of one entry, if each subscription is for its key. -/
theorem lists_agree (xs ys : List Subscription) (e : Entry) (r : List EntryId) (k : Key) (hk : e.key = some k)
    (h : ∀ m ∈ xs ++ ys, m.key = k) (hs : e.subs = ⟨!xs.isEmpty, !ys.isEmpty, false⟩)
    (hT : ∀ T, e.sup = some T → (∃ m ∈ xs ++ ys, m.hold = T) ∧ ∀ m ∈ xs ++ ys, T ≤ m.hold) : ListsAgree (withLists xs ys e r) := by
  have hl : ∀ m, m ∈ xs ++ ys ↔ ∃ p, m ∈ ((withLists xs ys e r).port p).subs := by
    intro m
    rw [List.mem_append]
    refine ⟨fun h => h.elim (fun h => ⟨.cp1, h⟩) (fun h => ⟨.cp2, h⟩), fun ⟨p, hp⟩ => ?_⟩
    cases p
    · exact .inl hp
    · exact .inr hp
    · cases hp
  have he : ∀ i k', ((withLists xs ys e r).entry i).key = some k' → i = 0 ∧ k' = k ∧ (withLists xs ys e r).entry i = e := by
    intro i k' hi
    have h2 : (withLists xs ys e r).entry i = if i = 0 then e else Entry.vacant := withEntry_entry e r base i
    rw [h2] at hi ⊢
    split at hi
    · rw [hk] at hi; cases hi; exact ⟨‹_›, rfl, if_pos ‹_›⟩
    · cases hi
  have hp : ∀ p, e.subs.get p = true ↔ ∃ m, m ∈ ((withLists xs ys e r).port p).subs := by
    intro p
    rw [hs]
    cases p
    · cases xs <;> simp [withLists, State.port, PerPort.get]
    · cases ys <;> simp [withLists, State.port, PerPort.get]
    · simp [withLists, State.port, PerPort.get, portHere, ClientPort.fresh]
  refine ⟨fun p i k' hi => ?_, fun p m hm => ⟨0, ?_⟩, fun i k' T hi hi2 => ?_⟩
  · obtain ⟨-, rfl, h3⟩ := he i k' hi
    rw [h3, hp p]
    exact ⟨fun ⟨m, hm⟩ => ⟨m, hm, h m ((hl m).2 ⟨p, hm⟩)⟩, fun ⟨m, hm, _⟩ => ⟨m, hm⟩⟩
  · rw [h m ((hl m).2 ⟨p, hm⟩)]
    exact (congrArg Entry.key (withEntry_entry e r base 0)).trans hk
  · obtain ⟨-, rfl, h3⟩ := he i k' hi
    rw [h3] at hi2 ⊢
    obtain ⟨⟨m, hm, hmT⟩, hmin⟩ := hT T hi2
    obtain ⟨p, hmp⟩ := (hl m).1 hm
    exact ⟨⟨p, (hp p).2 ⟨m, hmp⟩, m, hmp, h m hm, hmT⟩, fun q _ m' hm' _ => hmin m' ((hl m').2 ⟨q, hm'⟩)⟩

/-- The entry of (17, TRIP) held by CP1 alone: watched and LIVE with line A HEARD and line B SILENT. -/
def live17 : Entry := { heardBoth with key := some ⟨17, .trip⟩, hearing := some ⟨.heard, .silent⟩, lineDl := ⟨some 1000000, none⟩ }

theorem live17_sound : EntrySound live17 :=
  ⟨nofun, fun _ => ⟨by decide, _, rfl, by decide, by decide⟩, by decide, nofun, fun _ => ⟨rfl, _, rfl, rfl, by decide, by decide⟩, by decide, by decide,
   fun _ h hh => by cases hh; exact ⟨not_lost _ (by decide), by intro l; cases l <;> decide⟩, nofun, by decide, by decide, by decide⟩

theorem witness_ListsStaySound :
    let s := withLists [⟨⟨17, .trip⟩, 4⟩] [] live17 []
    ListsSound s ∧ ListsAgree s ∧ TableSound s ∧ ∃ t, step s = .next t :=
  ⟨by intro p; cases p <;> decide, lists_agree _ _ _ _ ⟨17, .trip⟩ rfl (by decide) rfl (by rintro T ⟨⟩; decide),
   withEntry_sound _ _ _ _ live17_sound rfl (base_origin _ (by decide)) (.inr ⟨rfl, by decide⟩), _, rfl⟩

theorem witness_ChannelsStaySound : ChannelsSound (withChan sending base) ∧ ∃ t, step (withChan sending base) = .next t := by
  refine ⟨fun c => ?_, _, rfl⟩
  have hc : (withChan sending base).chan c = if c = 0 then sending else Channel.fresh := by revert c; decide +kernel
  rw [hc]
  split <;> simp [ChannelSound, ScheduleLegal, sending, tmpl, Channel.fresh]

theorem witness_SettingsStayLegal : SettingsLegal base ∧ ∃ t, step base = .next t := ⟨base_settings, _, rfl⟩

theorem witness_ControlFrameRoundTrip : Command.wf (.load 7 0 65535 0 1482 (zeros 30)) = true ∧ Command.wf (.load 7 0 65535 0 1482 (zeros 1482)) = true ∧
    Command.wf (.propose 0 255 2 (zeros 1488)) = true ∧ Command.wf (.unknown 0xFF) = true := by decide +kernel

theorem witness_TagLayout : 14 ≤ (zeros 14).length ∧ 14 ≤ goose.length := by decide

/-- A LIVE entry with H = 5 and the members 5 and 65478, 63 behind it, and a pending pair of the latter from line A. -/
def judged : Entry := { heardBoth with record := some { high := 5, window := [0, 63] }, pair := some ⟨65478, .a, 100⟩ }

theorem witness_DuplicatesDiscarded : judged.state = .live ∧ judged.record = some { high := 5, window := [0, 63] } ∧
    32768 ≤ forwardDiff 5 65478 ∧ backDist 5 65478 ≤ 63 ∧ InWindow { high := 5, window := [0, 63] } 65478 ∧
    judged.pair = some ⟨65478, .a, 100⟩ := ⟨rfl, rfl, by decide, by decide, by unfold InWindow; decide, rfl⟩

theorem judged_window : WindowSound { high := 5, window := [0, 63] } := ⟨rfl, by decide, by decide⟩

/-- 1 and 32767 ahead; 63 and 1 behind. -/
theorem witness_NewSequenceAccepted : WindowSound { high := 5, window := [0, 63] } ∧ 1 ≤ forwardDiff 5 6 ∧ forwardDiff 5 6 ≤ 32767 ∧ forwardDiff 5 32772 = 32767 ∧
    32768 ≤ forwardDiff 5 65479 ∧ backDist 5 65479 ≤ 63 ∧ ¬ InWindow { high := 5, window := [0, 63] } 65479 ∧
    32768 ≤ forwardDiff 5 4 ∧ backDist 5 4 = 1 ∧ ¬ InWindow { high := 5, window := [0, 63] } 4 :=
  ⟨judged_window, by decide, by decide, by decide, by decide, by decide, by unfold InWindow; decide, by decide, by decide, by unfold InWindow; decide⟩

/-- 64 behind, and 32768 ahead; the seventh and the eighth stale arrival; an OPEN and a QUIET entry. -/
theorem witness_EntryRebased : judged.state = .live ∧ 32768 ≤ forwardDiff 5 65477 ∧ backDist 5 65477 = 64 ∧ forwardDiff 5 32773 = 32768 ∧ 64 ≤ backDist 5 32773 ∧
    { judged with staleRun := 6 }.staleRun < 7 ∧ 7 ≤ { judged with staleRun := 7 }.staleRun ∧ openTrip.state = .opened ∧
    { judged with state := .quiet }.state = .quiet := by decide

theorem pool_listens (l : Line) (q : Pool) : Listens l { base with pool := q } := base_listens l
theorem poolWith_free (n : Nat) : (poolWith n).free = n := rfl
theorem same_counts (s : State) (h : s.pool = base.pool) (hn : ∀ p, (s.notice p).poolSubject = none := by intro p; cases p <;> rfl) : PoolSound s :=
  pool_sound s (by rw [h]; exact base_fits) hn
theorem entry_counts (e : Entry) (r : List EntryId) : PoolSound (withEntry e r base) := same_counts _ rfl

/-- A frame of type TAG_TYPE with the half-word `w` where the origin stands, and `n` bytes in all before the check. -/
def badTag (w : Word16) (n : Nat) : List Byte := withCheck (zeros 12 ++ [0x89, 0xE2] ++ bytes16 w ++ zeros (n - 16))

/-- Frames of 63 and 1523 bytes; a frame of 69 bytes, and one of 70 with origin 0, with origin 4001, with class 3. -/
theorem witness_LineFramesDropped : (∀ l, Listens l base) ∧ (zeros 63).length < 64 ∧ 1522 < (zeros 1523).length ∧
    (∀ x ∈ [(badTag (tagWord 17 .trip .a) 65, true), (badTag (tagWord 0 .trip .a) 66, false), (badTag (tagWord 4001 .trip .a) 66, false), (badTag 0x011C 66, false)],
      64 ≤ x.1.length ∧ x.1.length ≤ 1522 ∧ checkMatches x.1 = true ∧ frameType (frameData x.1) = base.work.tagType ∧
      (if x.2 then x.1.length < 70 else x.1.length = 70 ∧ ((keyOrigin (half (frameData x.1) 14)).toNat = 0 ∨
        4000 < (keyOrigin (half (frameData x.1) 14)).toNat ∨ (half (frameData x.1) 14).extractLsb' 2 2 = 3#2))) := by
  refine ⟨base_listens, by decide, by decide +kernel, ?_⟩
  intro x hx
  simp only [List.mem_cons, List.not_mem_nil, or_false] at hx
  rcases hx with rfl | rfl | rfl | rfl <;> unfold badTag <;> simp only [withCheck_length, withCheck_data, withCheck_matches] <;> decide +kernel

/-- An own origin; a free count of 0; one of 32 for a class other than TRIP, and for an untagged frame. -/
theorem witness_LineFramesDropped_tagged : Tagged base.work.tagType ⟨17, .trip⟩ .a 5 (lineFrame .trip .a 60) ∧
    (∃ p, (withWork (fun w => { w with origin := ⟨17, 0, 0⟩ }) base).work.origin.get p = 17) ∧ (∀ p, base.work.origin.get p ≠ 17) ∧
    Listens .a { base with pool := poolWith 0 } ∧ (poolWith 0).free = 0 ∧ Tagged base.work.tagType ⟨17, .sampled⟩ .b 5 (lineFrame .sampled .b 60) ∧
    (poolWith 32).free ≤ 32 ∧ Untagged base.work.tagType (withCheck (zeros 60)) :=
  ⟨lineFrame_tagged _ _ _ (.inl rfl), ⟨.cp1, rfl⟩, base_remote, pool_listens .a _, poolWith_free 0, lineFrame_tagged _ _ _ (.inl rfl), (poolWith_free 32).le, untagged_short⟩

/-- A multicast frame, and a unicast one with a taker and without, at a free count of 33. -/
theorem witness_UntaggedDelivered : Untagged base.work.tagType (withCheck (goose ++ zeros 1454)) ∧ isMulticast (frameDst (frameData (withCheck (goose ++ zeros 1454)))) = true ∧
    Listens .a { base with pool := poolWith 33 } ∧ 33 ≤ (poolWith 33).free ∧ PoolSound { base with pool := poolWith 33 } ∧
    isMulticast (frameDst (head 0)) = false ∧ Matches (withWork (fun w => { w with address := ⟨0, frameDst (head 0), 0⟩ }) base) (frameDst (head 0)) .cp2 ∧
    ¬ Matches base (frameDst (head 0)) .cp2 :=
  ⟨untagged_long, by rw [withCheck_data]; decide +kernel, pool_listens .a _, (poolWith_free 33).ge, poolWith_counts _ _ (by decide), by decide, by unfold Matches; decide, by unfold Matches; decide⟩

/-- The entry of (17, TRIP) beside `live17` and `openTrip`: QUIET, unpinned, and LIVE with the eighth stale arrival next. -/
def quiet17 : Entry := { live17 with state := .quiet, hearing := some ⟨.silent, .silent⟩, lineDl := ⟨none, none⟩ }
def free17 : Entry := { live17 with subs := ⟨false, false, false⟩, hearing := none, sup := none, lineDl := ⟨none, none⟩, forgetDl := some 2000000 }
def stale17 : Entry := { live17 with record := some { high := 105, window := [0] }, staleRun := 7 }

theorem open17_sound : EntrySound openTrip :=
  ⟨nofun, fun _ => ⟨by decide, _, rfl, by decide, by decide⟩, by decide, fun _ => ⟨rfl, rfl, rfl, by rintro h ⟨⟩; rfl⟩, by simp [openTrip], by decide, by decide,
   nofun, nofun, by decide, by decide, by decide⟩

theorem quiet17_sound : EntrySound quiet17 :=
  ⟨nofun, fun _ => ⟨by decide, _, rfl, by decide, by decide⟩, by decide, nofun, fun _ => ⟨rfl, _, rfl, rfl, by decide, by decide⟩, by decide, by decide,
   nofun, by rintro - h ⟨⟩; exact ⟨.a, rfl, by decide⟩, by decide, by decide, by decide⟩

theorem free17_sound (k : Key) (h1 : 1 ≤ k.origin.toNat) (h2 : k.origin.toNat ≤ 4000) : EntrySound { free17 with key := some k } :=
  ⟨fun h => absurd h (by decide : EntryState.live ≠ .vacant), fun _ => ⟨(by decide : free17.staleRun ≤ 7), k, rfl, h1, h2⟩,
   (by decide : free17.state = .opened ∨ free17.state = .quiet → free17.pinned = true), fun h => absurd h (by decide : EntryState.live ≠ .opened),
   fun _ => ⟨rfl, { high := 65530, window := [0, 2, 5] }, rfl, rfl, by decide, by decide⟩, (by decide : free17.sup.isSome = true ↔ free17.pinned = true),
   (by decide : free17.hearing.isSome = true ↔ free17.watched = true), fun _ h hh => absurd (hh : none = some h) nofun, fun h => absurd h (by decide : EntryState.live ≠ .quiet),
   fun _ => rfl, (by decide : free17.localDl.isSome = true ↔ free17.state = .live ∧ free17.pinned = true ∧ free17.isLocal = true),
   (by decide : free17.forgetDl.isSome = true ↔ free17.state = .live ∧ free17.pinned = false)⟩

theorem stale17_sound : EntrySound stale17 :=
  ⟨nofun, fun _ => ⟨by decide, _, rfl, by decide, by decide⟩, by decide, nofun, fun _ => ⟨rfl, _, rfl, rfl, by decide, by decide⟩, by decide, by decide,
   fun _ h hh => by cases hh; exact ⟨not_lost _ (by decide), by intro l; cases l <;> decide⟩, nofun, by decide, by decide, by decide⟩

/-- A table of one of these entries, which is not local. -/
theorem table17 {e : Entry} (k : Key) (he : EntrySound e) (hk : e.key = some k) (h0 : k.origin ≠ 0) (hl : e.isLocal = false) (hp : e.pinned = true) :
    TableSound (withEntry e [] base) := withEntry_sound _ _ _ k he hk (by rw [hl]; exact base_origin k h0) (.inr ⟨rfl, by simp [hp]⟩)

theorem tables17 : TableSound (withEntry live17 [] base) ∧ TableSound (withEntry openTrip [] base) ∧ TableSound (withEntry quiet17 [] base) ∧
    TableSound (withEntry free17 [0] base) ∧ TableSound (withEntry stale17 [] base) :=
  ⟨table17 _ live17_sound rfl (by decide) rfl rfl, table17 _ open17_sound rfl (by decide) rfl rfl, table17 _ quiet17_sound rfl (by decide) rfl rfl,
   withEntry_sound _ _ _ _ (free17_sound ⟨17, .trip⟩ (by decide) (by decide)) rfl (base_origin _ (by decide)) (.inl ⟨rfl, rfl, rfl⟩),
   table17 _ stale17_sound rfl (by decide) rfl rfl⟩

theorem entry17 (e : Entry) (r : List EntryId) (s : State) : (withEntry e r s).entry 0 = e := by rw [withEntry_entry]; simp

/-- Each kind of entry, at the least free count that grants its class a buffer. -/
theorem witness_ArrivalJudged : Listens .b { withEntry live17 [] base with pool := poolWith 1 } ∧ Tagged base.work.tagType ⟨17, .trip⟩ .a 5 (lineFrame .trip .a 60) ∧
    (∀ p, base.work.origin.get p ≠ 17) ∧ 1 ≤ (poolWith 1).free ∧ PoolSound { withEntry live17 [] base with pool := poolWith 1 } ∧
    33 ≤ (withEntry live17 [] base).pool.free ∧ PoolSound (withEntry live17 [] base) ∧
    TableSound (withEntry live17 [] base) ∧ live17.key = some ⟨17, .trip⟩ ∧ live17.watched = true ∧ live17.state = .live ∧ live17.hearing = some ⟨.heard, .silent⟩ ∧
    live17.sup = some 4 ∧ TableSound (withEntry openTrip [] base) ∧ openTrip.watched = true ∧ openTrip.state = .opened ∧ openTrip.sup = some 2 ∧
    TableSound (withEntry quiet17 [] base) ∧ quiet17.watched = true ∧ quiet17.state = .quiet ∧ TableSound (withEntry free17 [0] base) ∧ free17.pinned = false :=
  ⟨base_listens .b, lineFrame_tagged _ _ _ (.inl rfl), base_remote, (poolWith_free 1).ge, poolWith_counts _ _ (by decide), by decide +kernel, entry_counts _ _,
   tables17.1, rfl, rfl, rfl, rfl, rfl, tables17.2.1, rfl, rfl, rfl, tables17.2.2.1, rfl, rfl, tables17.2.2.2.1, rfl⟩

/-- The outcomes of the arrival of sequence 5: accepted, a resync at the eighth stale arrival, and a duplicate; and an entry of class GENERAL. -/
theorem witness_ArrivalJudged_outcomes :
    (live17.judge { seq := 5, line := some .b, time := 1000000 }).2 = .accepted ∧
    TableSound (withEntry stale17 [] base) ∧ (stale17.judge { seq := 5, line := some .b, time := 1000000 }).2 = .resynced ∧ stale17.subs.get .cp1 = true ∧
    ({ live17 with record := some { high := 5, window := [0] } }.judge { seq := 5, line := some .b, time := 1000000 }).2 = .discarded ∧
    TableSound (withEntry { free17 with key := some ⟨17, .general⟩ } [0] base) ∧ PoolSound (withEntry { free17 with key := some ⟨17, .general⟩ } [0] base) ∧
    Tagged base.work.tagType ⟨17, .general⟩ .b 5 (lineFrame .general .b 60) :=
  ⟨by decide +kernel, tables17.2.2.2.2, by decide +kernel, rfl, by decide +kernel,
   withEntry_sound _ _ _ ⟨17, .general⟩ (free17_sound _ (by decide) (by decide)) rfl (base_origin _ (by decide)) (.inl ⟨rfl, rfl, rfl⟩), entry_counts _ _,
   lineFrame_tagged _ _ _ (.inl rfl)⟩

/-- A full table of unpinned LIVE entries of class GENERAL, entry 0 the least recent. -/
def fullEntry (i : EntryId) : Entry := { free17 with key := some ⟨BitVec.ofNat 12 (i.val + 1), .general⟩ }
def full : State := { base with table := { Table.fresh with entries := Vector.ofFn fullEntry, recency := List.finRange _ } }

theorem full_entry (i : EntryId) : full.entry i = fullEntry i := by simp [State.entry, full, Vector.get_eq_getElem]

theorem full_recency : full.table.recency = List.finRange Config.nEntries := by simp only [full]

theorem full_key (i : EntryId) : (fullEntry i).key = some ⟨BitVec.ofNat 12 (i.val + 1), .general⟩ ∧ (BitVec.ofNat 12 (i.val + 1)).toNat = i.val + 1 := by
  have := i.isLt
  simp only [Config.nEntries] at this
  exact ⟨rfl, by simp only [BitVec.toNat_ofNat]; omega⟩

theorem full_sound : TableSound full := by
  refine ⟨fun i => ?_, fun i j k hi hj => ?_, fun i k hi => ?_, by rw [full_recency]; exact List.nodup_finRange _, fun i => ?_⟩
  · have h := (full_key i).2
    have := i.isLt
    simp only [Config.nEntries] at this
    rw [full_entry]
    exact free17_sound ⟨BitVec.ofNat 12 (i.val + 1), .general⟩ (by show 1 ≤ (BitVec.ofNat 12 (i.val + 1)).toNat; omega)
      (by show (BitVec.ofNat 12 (i.val + 1)).toNat ≤ 4000; omega)
  · rw [full_entry, (full_key _).1] at hi hj
    have h2 := congrArg (fun o : Option Key => o.elim 0 (fun k => k.origin.toNat)) (hi.trans hj.symm)
    simp only [Option.elim, (full_key _).2] at h2
    exact Fin.ext (by omega)
  · rw [full_entry] at hi ⊢
    rw [(full_key i).1] at hi
    cases hi
    have h0 : BitVec.ofNat 12 (i.val + 1) ≠ 0 := by
      intro h
      have h2 := (full_key i).2
      rw [h] at h2
      simp at h2
    refine ⟨fun h => absurd h (by decide : false ≠ true), fun ⟨p, hp⟩ => absurd ?_ h0⟩
    cases p <;> exact (hp : (0 : Origin) = _).symm
  · rw [full_entry]; simp [full, fullEntry, free17, live17, heardBoth, sampled230, Entry.pinned]

theorem witness_ArrivalFounds : (∀ j, (base.entry j).key ≠ some ⟨17, .trip⟩) ∧ (base.entry 0).state = .vacant ∧ (∀ j : EntryId, j < 0 → (base.entry j).state ≠ .vacant) ∧
    PoolSound base ∧ TableSound full ∧ PoolSound full ∧ Listens .a full ∧ Tagged full.work.tagType ⟨17, .trip⟩ .b 5 (lineFrame .trip .b 1512) ∧
    (∀ p, full.work.origin.get p ≠ 17) ∧ (∀ j, (full.entry j).key ≠ some ⟨17, .trip⟩) ∧ (∀ j, (full.entry j).state ≠ .vacant) ∧
    ∃ rest, full.table.recency = 0 :: rest := by
  refine ⟨fun j => by rw [base_entry]; decide, by rw [base_entry]; rfl, fun j h => absurd h (Nat.not_lt_zero _), base_pool, full_sound, same_counts _ (by simp only [full]), ⟨by decide, rfl⟩,
    lineFrame_tagged _ _ _ (.inr rfl), (by intro p; cases p <;> decide +kernel), fun j => ?_, fun j => ?_, (List.finRange 511).map Fin.succ, by rw [full_recency]; exact List.finRange_succ⟩
  · rw [full_entry]; simp [fullEntry]
  · rw [full_entry]; simp [fullEntry, free17, live17, heardBoth, sampled230]

/-- Line A DOWN: outside STARTING with SETTLE 1000 and 0, and during STARTING; and its timer run out to the microsecond. -/
def withLine (x : LinePort) (s : State) : State := { s with lines := ⟨x, lineUp⟩ }
def settling : State := withLine { lineUp with link := .settling, settleStart := some 0 } base

theorem witness_LineSettles : ((withLine (.fresh .down none) base).line .a).link = .down ∧ ((withLine (.fresh .down none) State.reset).line .a).link = .down ∧
    (withWork (fun w => { w with settle := 0 }) base).work.settle = 0 ∧ (settling.line .a).link = .settling ∧ (settling.line .a).settleStart = some 0 ∧
    settling.work.settle * 1000 = (settling.clock - 0).toNat := by decide

/-- A busy line that goes down, with an entry that stays LIVE, one that goes QUIET, a QUIET one, and one that is OPEN. -/
theorem witness_LineLossSilences : ((withLine lineBusy base).line .a).link ≠ .down ∧ ((withEntry live17 [] base).entry 0) = live17 ∧
    live17.watched = true ∧ live17.state = .live ∧ live17.hearing = some ⟨.heard, .silent⟩ ∧ heardBoth.watched = true ∧ heardBoth.hearing = some ⟨.heard, .heard⟩ ∧
    quiet17.watched = true ∧ quiet17.state = .quiet ∧ quiet17.hearing = some ⟨.silent, .silent⟩ ∧ openTrip.state = .opened :=
  ⟨by decide, entry17 _ _ _, rfl, rfl, rfl, rfl, rfl, rfl, rfl, rfl, rfl⟩

/-- The counts agree before it, and entry 0 is the one that STREAM_QUIET tells CP1 of. -/
def losing : State := { withLine lineBusy (withEntry live17 [] base) with sup := ⟨⟨0, 1⟩, 1⟩ }
def quietOnA (e : Entry) : Bool := (e.inLive && e.hearing.any (fun h => decide (h.get .a ≠ .silent) && decide (h.get .b ≠ .heard))) && e.subs.get .cp1

theorem losing_entry (j : EntryId) : losing.entry j = if j = 0 then live17 else Entry.vacant := withEntry_entry live17 [] base j

theorem witness_LineLossSilences_told : (losing.line .a).link ≠ .down ∧ TableSound losing ∧ CountsAgree losing ∧ quietOnA (losing.entry 0) = true ∧
    ∀ j, 0 < j → quietOnA (losing.entry j) = false :=
  ⟨by decide, tables17.1, withEntry_agree live17 [] (withLine lineBusy base), by rw [losing_entry, if_pos rfl]; decide, fun j hj => by
    rw [losing_entry, if_neg (Fin.ne_of_gt hj)]; rfl⟩

/-- A completion with an urgent entry, with a routine one, and with none waiting. -/
theorem witness_LineTransmitsNext : ((withLine lineBusy base).line .a).tx = some ⟨0, true, []⟩ ∧ ((withLine lineBusy base).line .a).link ≠ .down ∧
    (lineBusy.urgent = [] ∧ lineBusy.routine = []) ∧ { lineBusy with urgent := [⟨1, none⟩], routine := [⟨2, none⟩] }.tx = lineBusy.tx ∧
    { lineBusy with routine := [⟨2, none⟩] }.urgent = [] := by decide

/-- The last reference to a buffer of a LOW pool that has 64 free. -/
theorem witness_LineTransmitsNext_pool :
    let s := { withLine { lineBusy with tx := some ⟨447, true, []⟩ } base with pool := poolWith 64 }
    (s.line .a).tx = some ⟨447, true, []⟩ ∧ (s.line .a).link ≠ .down ∧ PoolSound s ∧ (s.pool.bufs.get 447).count = 1 ∧ s.pool.low = true ∧ s.pool.free = 64 :=
  ⟨rfl, by decide, poolWith_counts _ _ (by decide), by decide +kernel, rfl, rfl⟩

/-- All four verdicts, and a change of one. -/
theorem witness_VerdictsJudged : base.sup.silent.get .a ≤ base.sup.pinnedLive ∧ verdict base .a = .sound ∧
    verdict { base with sup := ⟨⟨2, 1⟩, 2⟩ } .a = .deaf ∧ verdict { base with sup := ⟨⟨2, 1⟩, 2⟩ } .b = .partly ∧
    verdict (withLine (.fresh .down none) base) .a = .down ∧ verdict (withLine (.fresh .down none) base) .a ≠ verdict base .a := by decide

/-- Line A's deadline is due with line B HEARD, and with line B SILENT. -/
theorem witness_LineDeadlineSilences : (heardBoth.watched = true ∧ heardBoth.state = .live ∧ heardBoth.hearing = some ⟨.heard, .heard⟩ ∧
      heardBoth.lineDl.get .a = some 1000000) ∧
    (live17.watched = true ∧ live17.state = .live ∧ live17.hearing = some ⟨.heard, .silent⟩ ∧ live17.lineDl.get .a = some 1000000) ∧
    (base.clock - 1000000).toNat < 2147483648 ∧ (withEntry live17 [] base).entry 0 = live17 ∧ 1 ≤ { base with sup := ⟨⟨0, 1⟩, 1⟩ }.sup.pinnedLive :=
  ⟨by decide, by decide, by decide, entry17 _ _ _, by decide⟩

theorem witness_EntryDeadlinesEnd : ({ live17 with isLocal := true, hearing := none, localDl := some 1000000 }.pinned = true ∧
      { live17 with isLocal := true, hearing := none, localDl := some 1000000 }.localDl = some 1000000) ∧
    free17.forgetDl = some 2000000 ∧ ({ base with clock := 2000000 }.clock - 2000000).toNat < 2147483648 ∧
    (withEntry free17 [0] base).entry 0 = free17 := ⟨by decide, rfl, by decide, entry17 _ _ _⟩

/-- A PRESENT port whose window ends now; an ABSENT port with its link up. -/
theorem witness_AttendanceLost : (base.port .cp1).linkUp = true ∧ (base.port .cp1).present = true ∧ (base.port .cp1).window = some 1000001 ∧
    ({ base with clock := 1000001 }.clock - 1000001).toNat < 2147483648 ∧
    (ClientPort.fresh true none).linkUp = true ∧ (ClientPort.fresh true none).present = false ∧ (ClientPort.fresh true none).window = none := by decide

/-- Frames of 63 and 1517 bytes; a frame of TAG_TYPE; a HELLO, and a frame with a code that is not listed. -/
theorem witness_ClientFramesJudged : (base.port .cp1).linkUp = true ∧ base.starting = false ∧ (zeros 63).length < 64 ∧
    1516 < (withCheck (zeros 1513)).length ∧ checkMatches (withCheck (zeros 1513)) = true ∧
    64 ≤ (badTag 0 66).length ∧ (badTag 0 66).length ≤ 1516 ∧ checkMatches (badTag 0 66) = true ∧ frameType (frameData (badTag 0 66)) = base.work.tagType ∧
    frameType (frameData (badTag 0 66)) ≠ base.work.controlType ∧
    (∀ x ∈ [(head 0x01 ++ [1] ++ zeros 39, Command.hello true), (head 0x11 ++ zeros 1492, .unknown 0x11)],
      64 ≤ (withCheck x.1).length ∧ (withCheck x.1).length ≤ 1516 ∧ frameType (frameData (withCheck x.1)) = base.work.controlType ∧
      decodeControl (frameData (withCheck x.1)) = (0x020000000002, 0x1234, x.2)) ∧
    asInstr .cp1 0x020000000002 0x1234 (.hello true) = some (.hello .cp1 0x020000000002 0x1234 true) ∧ Commands .cp1 base := by
  unfold badTag
  simp only [withCheck_length, withCheck_data, withCheck_matches]
  exact ⟨by decide, by decide, by decide, by decide +kernel, trivial, by decide, by decide, trivial, by decide, by decide, by decide +kernel, rfl, base_commands⟩

/-- A GENERAL frame of 64 bytes, with a neighbour that has its address; a TRIP frame of 1516; the free counts 0, 1, 32 and 33. -/
def classed : State := withWork (fun w => { w with tripSet := [0x88B8], address := ⟨0, 0x020000000001, 0⟩, origin := ⟨17, 0, 0⟩ }) base

theorem witness_DataFrameOriginated : (classed.port .cp1).linkUp = true ∧ classed.starting = false ∧ PoolSound classed ∧ 33 ≤ classed.pool.free ∧
    (∀ n ∈ [0, 1, 32, 33, 64], PoolSound { classed with pool := poolWith n } ∧ (poolWith n).free = n) ∧
    (∀ x ∈ [(head 0x01).take 12 ++ [8, 0] ++ zeros 46, goose ++ zeros 1448], 64 ≤ (withCheck x).length ∧ (withCheck x).length ≤ 1516 ∧
      checkMatches (withCheck x) = true ∧ frameType (frameData (withCheck x)) ≠ classed.work.controlType ∧
      frameType (frameData (withCheck x)) ≠ classed.work.tagType) ∧
    frameType (frameData (withCheck (goose ++ zeros 1448))) ∈ classed.work.tripSet ∧
    Matches classed (frameDst (frameData (withCheck ((head 0x01).take 12 ++ [8, 0] ++ zeros 46)))) .cp2 := by
  simp only [withCheck_length, withCheck_data, withCheck_matches]
  exact ⟨rfl, rfl, base_pool, by decide +kernel, fun n h => ⟨poolWith_counts classed n h, rfl⟩, by decide +kernel, by decide +kernel, by unfold Matches; decide +kernel⟩

/-- The entry of CP1's own origin: OPEN and QUIET with CP2 as its subscriber, and unpinned; and a TRIP frame of CP1 finds it. -/
def local17 : Entry := { openTrip with isLocal := true, hearing := none, subs := ⟨false, true, false⟩ }
def localQuiet : Entry := { quiet17 with isLocal := true, hearing := none, subs := ⟨false, true, false⟩ }
def localFree : Entry := { free17 with isLocal := true }

theorem local17_sound : EntrySound local17 ∧ EntrySound localQuiet ∧ EntrySound localFree :=
  ⟨⟨nofun, fun _ => ⟨by decide, _, rfl, by decide, by decide⟩, by decide, fun _ => ⟨rfl, rfl, rfl, nofun⟩, by simp [local17, openTrip], by decide, by decide,
    nofun, nofun, by decide, by decide, by decide⟩,
   ⟨nofun, fun _ => ⟨by decide, _, rfl, by decide, by decide⟩, by decide, nofun, fun _ => ⟨rfl, _, rfl, rfl, by decide, by decide⟩, by decide, by decide,
    nofun, nofun, by decide, by decide, by decide⟩,
   ⟨nofun, fun _ => ⟨by decide, _, rfl, by decide, by decide⟩, by decide, nofun, fun _ => ⟨rfl, _, rfl, rfl, by decide, by decide⟩, by decide, by decide,
    fun _ _ hh => absurd hh nofun, nofun, by decide, by decide, by decide⟩⟩

theorem witness_DataFrameOriginated_local : classed.work.origin.get .cp1 = 17 ∧ (classed.port .cp1).linkUp = true ∧
    (TableSound (withEntry local17 [] classed) ∧ (withEntry local17 [] classed).entry 0 = local17 ∧ local17.key = some ⟨17, .trip⟩ ∧ local17.pinned = true ∧
      local17.sup = some 2 ∧ local17.subs.get .cp2 = true ∧ (local17.judge { seq := 0, line := none, time := 1000000 }).2 ≠ .discarded ∧
      TakesOriginated ⟨17, .trip⟩ 0 0 (withEntry local17 [] classed) .cp2) ∧
    (TableSound (withEntry localQuiet [] classed) ∧ localQuiet.state = .quiet ∧ localQuiet.sup = some 4) ∧
    (TableSound (withEntry localFree [0] classed) ∧ localFree.pinned = false) := by
  have hl : true = true ↔ ∃ p, classed.work.origin.get p = 17 := ⟨fun _ => ⟨.cp1, rfl⟩, fun _ => rfl⟩
  refine ⟨rfl, rfl, ⟨withEntry_sound _ _ _ _ local17_sound.1 rfl hl (.inr ⟨rfl, by decide⟩), entry17 _ _ _, rfl, rfl, rfl, rfl, by decide, ?_⟩,
    ⟨withEntry_sound _ _ _ _ local17_sound.2.1 rfl hl (.inr ⟨rfl, by decide⟩), rfl, rfl⟩,
    ⟨withEntry_sound _ _ _ _ local17_sound.2.2 rfl hl (.inl ⟨rfl, rfl, rfl⟩), rfl⟩⟩
  have h : (withEntry local17 [] classed).entry 0 = local17 := entry17 _ _ _
  refine ⟨fun _ => ⟨0, by rw [h]; rfl, ?_, by rw [h]; rfl, rfl⟩, nofun⟩
  simp only [h]
  decide

/-- A completion at a port with all three queues waiting; a link-up with an empty lane and with one frame in it. -/
def waitingFrame : LaneFrame := { dst := 7, src := 0, type := 0x89E3, content := .reply 1 2 .done .empty }
def portBusy : ClientPort := { portHere with tx := some ⟨.lane, none, []⟩, urgent := [0], lane := [waitingFrame], routine := [0] }

theorem witness_ClientLinkServes : ((withPort portBusy base).port .cp1).tx = some ⟨.lane, none, []⟩ ∧ ((withPort portBusy base).port .cp1).linkUp = true ∧
    ((withPort (.fresh false none) base).port .cp1).linkUp = false ∧ ((withPort (.fresh false none) base).port .cp1).tx = none ∧
    ((withPort { ClientPort.fresh false none with lane := [waitingFrame] } base).port .cp1).urgent = [] := by decide

/-- A DOWN link, STARTING, a full lane of 16, and an ABSENT port. -/
theorem witness_CommandsTurnedAway : asInstr .cp1 7 1 .keep = some (.keep .cp1 7 1) ∧ ((withPort (.fresh false none) base).port .cp1).linkUp = false ∧
    State.reset.starting = true ∧ ((withPort { portBusy with lane := List.replicate 16 waitingFrame } base).port .cp1).lane.length = 16 ∧
    LaneOpen .cp1 (withPort (.fresh true none) base) ∧ ((withPort (.fresh true none) base).port .cp1).present = false ∧
    (∀ fresh, Command.keep ≠ .hello fresh) := ⟨rfl, rfl, rfl, rfl, ⟨rfl, rfl, by decide⟩, rfl, by decide⟩

theorem lists17 : ListsSound (withLists [⟨⟨17, .trip⟩, 4⟩] [] live17 []) ∧ ListsAgree (withLists [⟨⟨17, .trip⟩, 4⟩] [] live17 []) ∧
    TableSound (withLists [⟨⟨17, .trip⟩, 4⟩] [] live17 []) :=
  ⟨by intro p; cases p <;> decide, lists_agree _ _ _ _ ⟨17, .trip⟩ rfl (by decide) rfl (by rintro T ⟨⟩; decide), tables17.1⟩

/-- The lane with one place left still takes a command; an ABSENT port that comes back, and a PRESENT one, with a list that its HELLO clears. -/
theorem witness_HelloAttends : LaneOpen .cp1 (withPort { portBusy with present := false, window := none, urgent := [], routine := [], lane := List.replicate 15 waitingFrame } base) ∧
    (let s := withLists [⟨⟨17, .trip⟩, 4⟩] [] live17 []
     let t := { s with ports := s.ports.set .cp1 { s.port .cp1 with present := false, window := none } }
     (Commands .cp1 s ∧ TableSound s ∧ ListsSound s ∧ ListsAgree s ∧ CountsAgree s ∧ (s.entry 0).subs.get .cp1 = true) ∧
     LaneOpen .cp1 t ∧ (t.port .cp1).present = false ∧ TableSound t ∧ CountsAgree t ∧ ListsSound t ∧ ListsAgree t) :=
  ⟨⟨rfl, rfl, by decide⟩, ⟨⟨⟨rfl, rfl, by show (0 : Nat) < 16; decide⟩, rfl⟩, lists17.2.2, lists17.1, lists17.2.1, withEntry_agree live17 [] base, congrArg (fun e : Entry => e.subs.get .cp1) (entry17 live17 [] base)⟩,
   ⟨rfl, rfl, by show (0 : Nat) < 16; decide⟩, rfl, lists17.2.2, withEntry_agree live17 [] base, by intro p; cases p <;> decide, by
    refine ⟨fun p i k h => ?_, fun p m hm => ?_, fun i k T h1 h2 => ?_⟩
    · have := lists17.2.1.1 p i k h; cases p <;> exact this
    · refine lists17.2.1.2.1 p m ?_; cases p <;> exact hm
    · obtain ⟨⟨p, h3, h4⟩, h5⟩ := lists17.2.1.2.2 i k T h1 h2
      exact ⟨⟨p, h3, by cases p <;> exact h4⟩, fun q h6 m hm => h5 q h6 m (by cases q <;> exact hm)⟩⟩

/-- A busy port with a list, an entry, and a notice in service. -/
theorem witness_RestartPortStartsAnew : Commands .cp1 (withPort portBusy base) ∧ (base.port .cp2).present = true ∧
    Commands .cp1 (withLists [⟨⟨17, .trip⟩, 4⟩] [] live17 []) ∧ TableSound (withLists [⟨⟨17, .trip⟩, 4⟩] [] live17 []) ∧
    ListsSound (withLists [⟨⟨17, .trip⟩, 4⟩] [] live17 []) ∧ ListsAgree (withLists [⟨⟨17, .trip⟩, 4⟩] [] live17 []) ∧ CountsAgree (withLists [⟨⟨17, .trip⟩, 4⟩] [] live17 []) :=
  ⟨⟨⟨rfl, rfl, by decide⟩, rfl⟩, rfl, ⟨⟨rfl, rfl, by show (0 : Nat) < 16; decide⟩, rfl⟩, lists17.2.2, lists17.1, lists17.2.1, withEntry_agree live17 [] base⟩

/-- Origins 0, 4001 and class GENERAL; a list of 96; a key that the list does not hold. -/
def subs96 : List Subscription := (List.range 96).map (fun n => ⟨⟨BitVec.ofNat 12 (n + 100), .trip⟩, 2⟩)

theorem witness_SubscriptionRefused : Commands .cp1 base ∧ (keyOrigin (keyWord 0 .trip)).toNat = 0 ∧ 4000 < (keyOrigin (keyWord 4001 .trip)).toNat ∧
    keyClass 0x011C = none ∧ keyClass (keyWord 17 .general) = some .general ∧ keyOrigin (keyWord 4000 .sampled) = 4000 ∧
    keyClass (keyWord 4000 .sampled) = some .sampled ∧ Commands .cp1 (withPort { portHere with subs := subs96 } base) ∧
    (∀ m ∈ subs96, m.key ≠ ⟨4000, .sampled⟩) ∧ subs96.length = 96 :=
  ⟨base_commands, by decide, by decide, by decide, by decide, by decide, by decide, ⟨⟨rfl, rfl, by decide⟩, rfl⟩, by decide +kernel, by decide +kernel⟩

/-- A list with one place left, the lowest entry VACANT. -/
theorem witness_SubscribeOpens : Commands .cp1 (withPort { portHere with subs := subs96.tail } base) ∧ 1 ≤ (17#12).toNat ∧ (17#12).toNat ≤ 4000 ∧
    (∀ m ∈ subs96.tail, m.key ≠ ⟨17, .trip⟩) ∧ subs96.tail.length = 95 ∧
    (∀ j, ((withPort { portHere with subs := subs96.tail } base).entry j).key ≠ some ⟨17, .trip⟩) ∧
    ((withPort { portHere with subs := subs96.tail } base).entry 0).state = .vacant :=
  ⟨⟨⟨rfl, rfl, by decide⟩, rfl⟩, by decide, by decide, by decide +kernel, by decide +kernel,
   fun j => by show (base.entry j).key ≠ _; rw [base_entry]; decide, congrArg Entry.state (base_entry 0)⟩

/-- The same with a full table, whose recency head is entry 0. -/
theorem witness_SubscribeOpens_full : Commands .cp1 (withPort { portHere with subs := subs96.tail } full) ∧
    (∀ j, ((withPort { portHere with subs := subs96.tail } full).entry j).key ≠ some ⟨17, .trip⟩) ∧
    TableSound (withPort { portHere with subs := subs96.tail } full) ∧
    (∀ j, ((withPort { portHere with subs := subs96.tail } full).entry j).state ≠ .vacant) ∧
    ∃ rest, (withPort { portHere with subs := subs96.tail } full).table.recency = 0 :: rest :=
  ⟨⟨⟨rfl, rfl, by show (0 : Nat) < 16; decide⟩, rfl⟩, witness_ArrivalFounds.2.2.2.2.2.2.2.2.2.1, full_sound, witness_ArrivalFounds.2.2.2.2.2.2.2.2.2.2.1,
   witness_ArrivalFounds.2.2.2.2.2.2.2.2.2.2.2⟩

/-- What a SUBSCRIBE or UNSUBSCRIBE at CP1 for the key of the one entry `e` asks of a state. -/
def Ready17 (e : Entry) (s : State) : Prop :=
  Commands .cp1 s ∧ TableSound s ∧ ListsSound s ∧ ListsAgree s ∧ CountsAgree s ∧ (s.entry 0).key = some ⟨17, .trip⟩ ∧ s.entry 0 = e

/-- A table of the sound entry `e` of (17, TRIP), whose subscribers' lists are `xs` and `ys`, is such a state. -/
theorem ready17 (xs ys : List Subscription) (e : Entry) (r : List EntryId) (ht : TableSound (withEntry e r base)) (hk : e.key = some ⟨17, .trip⟩)
    (h : ∀ m ∈ xs ++ ys, m.key = ⟨17, .trip⟩) (hs : e.subs = ⟨!xs.isEmpty, !ys.isEmpty, false⟩)
    (hT : ∀ T, e.sup = some T → (∃ m ∈ xs ++ ys, m.hold = T) ∧ ∀ m ∈ xs ++ ys, T ≤ m.hold)
    (hl : ListsSound (withLists xs ys e r)) : Ready17 e (withLists xs ys e r) :=
  ⟨⟨⟨rfl, rfl, by show (0 : Nat) < 16; decide⟩, rfl⟩, ht, hl, lists_agree xs ys e r _ hk h hs hT, withEntry_agree e r base,
   (congrArg Entry.key (entry17 e r base)).trans hk, entry17 e r base⟩

/-- The entry held by CP2 alone, and by both. -/
def second17 : Entry := { live17 with subs := ⟨false, true, false⟩ }
def both17 : Entry := { live17 with subs := ⟨true, true, false⟩ }

theorem second17_sound : EntrySound second17 ∧ EntrySound both17 :=
  ⟨⟨nofun, fun _ => ⟨by decide, _, rfl, by decide, by decide⟩, by decide, nofun, fun _ => ⟨rfl, _, rfl, rfl, by decide, by decide⟩, by decide, by decide,
    fun _ h hh => by cases hh; exact ⟨not_lost _ (by decide), by intro l; cases l <;> decide⟩, nofun, by decide, by decide, by decide⟩,
   ⟨nofun, fun _ => ⟨by decide, _, rfl, by decide, by decide⟩, by decide, nofun, fun _ => ⟨rfl, _, rfl, rfl, by decide, by decide⟩, by decide, by decide,
    fun _ h hh => by cases hh; exact ⟨not_lost _ (by decide), by intro l; cases l <;> decide⟩, nofun, by decide, by decide, by decide⟩⟩

/-- An unpinned entry; one pinned by CP2 alone; one pinned by CP1, whose hold time is replaced. -/
theorem witness_SubscribeJoins :
    (Ready17 free17 (withLists [] [] free17 [0]) ∧ free17.pinned = false) ∧
    (Ready17 second17 (withLists [] [⟨⟨17, .trip⟩, 4⟩] second17 []) ∧ second17.pinned = true) ∧
    (Ready17 live17 (withLists [⟨⟨17, .trip⟩, 4⟩] [] live17 []) ∧ ∃ m ∈ [(⟨⟨17, .trip⟩, 4⟩ : Subscription)], m.key = ⟨17, .trip⟩) :=
  ⟨⟨ready17 _ _ _ _ tables17.2.2.2.1 rfl (by decide) rfl nofun (by intro p; cases p <;> decide), rfl⟩,
   ⟨ready17 _ _ _ _ (table17 _ second17_sound.1 rfl (by decide) rfl rfl) rfl (by decide) rfl (by rintro T ⟨⟩; decide) (by intro p; cases p <;> decide), rfl⟩,
   ⟨ready17 _ _ _ _ tables17.1 rfl (by decide) rfl (by rintro T ⟨⟩; decide) (by intro p; cases p <;> decide), _, List.mem_singleton_self _, rfl⟩⟩

/-- An entry with a second subscriber, whose leaving makes T 7; an OPEN one; a LIVE one whose last arrival is 5000 ms and 4999.999 ms past. -/
theorem witness_UnsubscribeLeaves :
    (Ready17 both17 (withLists [⟨⟨17, .trip⟩, 4⟩] [⟨⟨17, .trip⟩, 7⟩] both17 []) ∧ ∃ q, q ≠ .cp1 ∧ both17.subs.get q = true) ∧
    (Ready17 openTrip (withLists [⟨⟨17, .trip⟩, 2⟩] [] openTrip []) ∧ ∀ q, q ≠ .cp1 → openTrip.subs.get q = false) ∧
    (Ready17 live17 (withLists [⟨⟨17, .trip⟩, 4⟩] [] live17 []) ∧ ∀ q, q ≠ .cp1 → live17.subs.get q = false) ∧ live17.lastAny = some 996000 ∧
    base.work.forget * 1000 = (({ base with clock := 5996000 } : State).clock - 996000).toNat ∧
    (({ base with clock := 5995999 } : State).clock - 996000).toNat < base.work.forget * 1000 :=
  ⟨⟨ready17 _ _ _ _ (table17 _ second17_sound.2 rfl (by decide) rfl rfl) rfl (by decide) rfl (by rintro T ⟨⟩; decide) (by intro p; cases p <;> decide),
    .cp2, by decide, rfl⟩,
   ⟨ready17 _ _ _ _ tables17.2.1 rfl (by decide) rfl (by rintro T ⟨⟩; decide) (by intro p; cases p <;> decide), by intro q; cases q <;> decide⟩,
   ⟨witness_SubscribeJoins.2.2.1, by intro q; cases q <;> decide⟩, rfl, by decide, by decide⟩

/-- The channel of CP1 under test, in a state whose buffer 0 holds its template. -/
def chanState (x : Channel) : State := withChan x (withBuffer base)

theorem chan_commands (x : Channel) : Commands .cp1 (chanState x) ∧ (chanState x).work.owner.get 0 = some .cp1 ∧ PoolSound (chanState x) ∧ (chanState x).chan 0 = x :=
  ⟨⟨⟨rfl, rfl, by show (0 : Nat) < 16; decide⟩, rfl⟩, rfl, pool_sound _ (buffer_fits base), rfl⟩

def readyChan : Channel := { Channel.fresh with state := .ready, cur := some (tmpl 2 1000 12) }

/-- Channel 8 and 7; a template of 1483 bytes and one past the frame's end; a channel of no port. -/
theorem witness_ChannelCommandRefused : asInstr .cp1 7 1 (.start 8) = some (.start .cp1 7 1 8) ∧ chanNumber (.start 8) = some 8 ∧ Commands .cp1 base ∧
    8 ≤ (8#8).toNat ∧ (7#8) = BitVec.ofNat 8 (7 : ChanId).val ∧ base.work.owner.get 7 ≠ some .cp1 ∧ 1482 < (1483#16).toNat ∧
    (zeros 30).length < (31#16).toNat := ⟨rfl, rfl, base_commands, by decide, rfl, by decide, by decide, by decide⟩

/-- Every channel state; templates of 63 and 64 bytes; free counts of 0 and 1. -/
theorem witness_LoadStores : (Commands .cp1 (chanState Channel.fresh) ∧ Commands .cp1 (chanState readyChan) ∧ Commands .cp1 (chanState sending)) ∧
    (chanState readyChan).work.owner.get 0 = some .cp1 ∧ PoolSound (chanState readyChan) ∧ TemplateIs goose 64 goose ∧ TemplateIs (goose.take 63) 63 goose ∧
    goose.length = 64 ∧ (∀ n ∈ [0, 1, 32, 33, 64], PoolSound { chanState Channel.fresh with pool := poolWith n }) ∧ 1 ≤ (chanState readyChan).pool.free ∧
    ((chanState readyChan).pool.bufs.get 0).count ≠ 0 :=
  ⟨⟨(chan_commands _).1, (chan_commands _).1, (chan_commands _).1⟩, rfl, (chan_commands _).2.2.1, by unfold TemplateIs; decide, by unfold TemplateIs; decide, by decide,
   fun n h => poolWith_counts _ n h, by decide +kernel, by decide +kernel⟩

/-- EMPTY; READY with a flag; Tmin above Tmax; a template whose type is outside the TRIP set; the passed check with each trigger; SENDING. -/
theorem witness_StartChecked : (∀ x, Commands .cp1 (chanState x) ∧ (chanState x).work.owner.get 0 = some .cp1) ∧ Channel.fresh.state = .empty ∧
    { readyChan with finished := true }.state = .ready ∧ (tmpl 1000 999 12).sched.tmax < (tmpl 1000 999 12).sched.tmin ∧
    (frameType ((chanState readyChan).frameOf 0) ∈ (chanState readyChan).work.tripSet ∧ (tmpl 2 1000 12).sched.tmin ≤ (tmpl 2 1000 12).sched.tmax) ∧
    frameType ((withWork (fun w => { w with tripSet := [] }) (chanState readyChan)).frameOf 0) ∉ (withWork (fun w => { w with tripSet := [] }) (chanState readyChan)).work.tripSet ∧
    (withWork (fun w => { w with trigger := w.trigger.set 0 (.level 3) }) (chanState readyChan)).work.trigger.get 0 = .level 3 ∧
    ((chanState readyChan).input 3).filtered = false ∧ sending.state = .sending :=
  ⟨fun x => ⟨(chan_commands x).1, rfl⟩, rfl, rfl, by decide, by decide +kernel, by decide +kernel, rfl, by decide +kernel, rfl⟩

/-- The same READY channel, with a COMMAND trigger, and with a LEVEL trigger on a high line. -/
theorem witness_StartSends : readyChan.state = .ready ∧ readyChan.finished = false ∧ readyChan.failed = none ∧ readyChan.cur = some (tmpl 2 1000 12) ∧
    readyChan.nxt = none ∧ (chanState readyChan).work.trigger.get 0 = .command ∧
    (State.input { chanState readyChan with inputs := base.inputs.set 3 ⟨true, true, none, 0, 0, 0⟩ } 3).filtered = true ∧
    { readyChan with cur := some (tmpl 2 1000 1) }.state = .ready := ⟨rfl, rfl, rfl, rfl, rfl, rfl, by decide +kernel, rfl⟩

theorem witness_StopAndClear : Commands .cp1 (chanState sending) ∧ (chanState sending).work.owner.get 0 = some .cp1 ∧ (chanState sending).chan 0 = sending ∧
    sending.state = .sending ∧ { sending with state := .armed }.state = .armed ∧ readyChan.state = .ready :=
  ⟨(chan_commands _).1, rfl, rfl, rfl, rfl, rfl⟩

/-- READY; ARMED and SENDING with a template in the TRIP set; a burst of one send and a longer one; EMPTY. -/
theorem witness_ReplaceSwaps : (∀ x, Commands .cp1 (chanState x) ∧ (chanState x).work.owner.get 0 = some .cp1 ∧ PoolSound (chanState x)) ∧
    TemplateIs goose 64 goose ∧ TemplateIs (goose.take 63) 63 goose ∧ frameType goose ∈ (chanState sending).work.tripSet ∧
    frameType (zeros 64) ∉ (chanState sending).work.tripSet ∧ 1 ≤ (chanState sending).pool.free ∧ sending.cur = some (tmpl 2 1000 12) ∧
    ((chanState sending).pool.bufs.get 0).count ≠ 0 ∧ { sending with cur := some (tmpl 2 1000 1) }.nxt = none ∧ readyChan.state = .ready :=
  ⟨fun x => ⟨(chan_commands x).1, rfl, (chan_commands x).2.2.1⟩, by unfold TemplateIs; decide, by unfold TemplateIs; decide, by decide +kernel, by decide +kernel,
   by decide +kernel, rfl, by decide +kernel, rfl, rfl⟩

/-- A counted burst, SENDING and ARMED; one that is not counted; a clamped Tmin of 1000 and a Tmax of 1000 and 999. -/
theorem witness_ChainQueues : (∀ x, Commands .cp1 (chanState x) ∧ PoolSound (chanState x)) ∧ sending.state = .sending ∧ (∃ t, sending.cur = some t ∧ 1 ≤ t.sched.n) ∧
    (∀ m, (chanState sending).work.trigger.get 0 ≠ .level m) ∧ { sending with cur := some (tmpl 2 1000 0) }.cur = some (tmpl 2 1000 0) ∧
    64 ≤ goose.length ∧ frameType goose ∈ (chanState sending).work.tripSet ∧ (1000#16).toNat ≤ 1000 ∧ ¬ (1000 ≤ (999#16).toNat) ∧
    { sending with nxt := some (tmpl 2 1000 3) }.nxt = some (tmpl 2 1000 3) ∧ ((chanState sending).pool.bufs.get 0).count ≠ 0 :=
  ⟨fun x => ⟨(chan_commands x).1, (chan_commands x).2.2.1⟩, rfl, ⟨_, rfl, by decide⟩, by decide, rfl, by decide, by decide +kernel, by decide, by decide, rfl, by decide +kernel⟩

/-- A send that does not end its burst, the twelfth of a COMMAND and of an EDGE burst, one with a next template, a low LEVEL line, and STOPPING. -/
theorem witness_SendTimeExpires : (chanState sending).chan 0 = sending ∧ sending.sendTime = some 1000000 ∧ ((chanState sending).clock - 1000000).toNat < 2147483648 ∧
    (chanState sending).work.owner.get 0 = some .cp1 ∧ sending.cur = some (tmpl 2 1000 12) ∧ (chanState sending).work.trigger.get 0 = .command ∧
    min (sending.sendCount + 1) 65535 ≠ 12 ∧ min ({ sending with sendCount := 11 }.sendCount + 1) 65535 = (tmpl 2 1000 12).sched.n ∧
    { sending with nxt := some (tmpl 2 1000 3) }.nxt = some (tmpl 2 1000 3) ∧ (tmpl 2 1000 3).sched.n ≠ 1 ∧
    (withWork (fun w => { w with trigger := w.trigger.set 0 (.edge 3) }) (chanState sending)).work.trigger.get 0 = .edge 3 ∧
    (withWork (fun w => { w with trigger := w.trigger.set 0 (.level 3) }) (chanState sending)).work.trigger.get 0 = .level 3 ∧
    ((chanState sending).input 3).filtered = false ∧ { sending with state := .stopping }.state = .stopping :=
  ⟨rfl, rfl, by decide, rfl, rfl, rfl, by decide, by decide, rfl, by decide, rfl, rfl, by decide +kernel, rfl⟩

/-- The four cases of a contact change; an expiry with the contact low and high; an EDGE channel in SENDING and one with a burst of one send. -/
theorem witness_InputsFiltered : (base.input 3).raw = false ∧ base.starting = false ∧ (base.input 3).change = none ∧ (base.input 3).filtered = false ∧
    1 ≤ base.work.filter.get 3 ∧ (withWork (fun w => { w with filter := Vector.replicate _ 0 }) base).work.filter.get 3 = 0 ∧ State.reset.starting = true ∧
    (State.input { base with inputs := base.inputs.set 3 ⟨true, false, some 1000000, 0, 0, 0⟩ } 3).change = some 1000000 ∧
    (State.input { base with inputs := base.inputs.set 3 ⟨false, true, some 1000000, 0, 0, 0⟩ } 3).raw = false ∧ (base.clock - 1000000).toNat < 2147483648 ∧
    (withWork (fun w => { w with trigger := w.trigger.set 0 (.edge 3) }) (chanState sending)).work.trigger.get 0 = .edge 3 ∧
    ((chanState sending).work.owner.get 0).isSome = true ∧ (tmpl 2 1000 12).sched.n ≠ 1 ∧ { sending with cur := some (tmpl 2 1000 1) }.nxt = none :=
  ⟨by decide +kernel, rfl, by decide +kernel, by decide +kernel, by decide, by decide, rfl, by decide +kernel, by decide +kernel, by decide, rfl, rfl, by decide, rfl⟩

/-- A memory of no byte holds no image; the image of one record SETTLE = 50 with a byte behind it is held, its CRC matching and not. -/
theorem witness_ImageReadEnds : State.reset.starting = true ∧ (∀ c, (State.reset.chan c).state = .empty) ∧ (∀ rs crc, ¬ ImageHolds [] rs crc) ∧
    ImageHolds (imageBytes [⟨7, 0, [0, 50]⟩] ++ bytes16 0 ++ [9]) [⟨7, 0, [0, 50]⟩] 0 ∧ (0 : Word16) ≠ crc16 (imageBytes [⟨7, 0, [0, 50]⟩]) ∧
    ImageHolds (imageBytes [⟨7, 0, [0, 50]⟩] ++ bytes16 (crc16 (imageBytes [⟨7, 0, [0, 50]⟩])) ++ [9]) [⟨7, 0, [0, 50]⟩]
      (crc16 (imageBytes [⟨7, 0, [0, 50]⟩])) := by
  refine ⟨rfl, by decide +kernel, ?_, ⟨by decide, by decide, _, rfl⟩, by decide +kernel, ⟨by decide, by decide, _, rfl⟩⟩
  rintro rs crc ⟨-, -, x, h⟩
  have := congrArg List.length h
  simp [imageBytes, bytes16] at this

/-- Eight proposals of CP1, and a state with a list of proposals. -/
def eight : List Proposal := [⟨.cp1, .settle 50, 9⟩, ⟨.cp1, .forget 200, 9⟩] ++ (List.range 6).map (fun n => ⟨.cp1, .filter (Fin.ofNat _ n) 1, 9⟩)
def listed (ps : List Proposal) : State := { base with settings := { base.settings with proposals := ps } }

theorem listed_commands (ps : List Proposal) (p : Port) : Commands p (listed ps) := by
  cases p <;> exact ⟨⟨rfl, rfl, by show (0 : Nat) < 16; decide⟩, rfl⟩

/-- A value past the frame's end and one of a wrong length; an unknown item; ORIGIN 4001 and 4000; an ORIGIN that CP2 holds; a SETTLE that is clamped. -/
theorem witness_ProposeAnswered : (∀ ps p, Commands p (listed ps)) ∧ (∀ value, ¬ ValueIs value 13 37 (zeros 36)) ∧ (∀ value, ¬ ValueIs value 7 3 (zeros 36)) ∧
    ValueIs [0] 13 1 (zeros 36) ∧ (∀ item, ¬ NamesItem 13 0 item) ∧
    (ValueIs [0x0F, 0xA1] 1 2 (0x0F :: 0xA1 :: zeros 34) ∧ NamesItem 1 1 (.origin .cp1) ∧ (∀ v : Setting, v.item = .origin .cp1 → ¬ TakenAs base.work [0x0F, 0xA1] v) ∧
      ¬ DuplicateOrigin base.work [0x0F, 0xA1] (.origin .cp1)) ∧
    TakenAs base.work [0x0F, 0xA0] (.origin .cp1 4000) ∧ TakenAs base.work [0x13, 0x89] (.settle 5000) ∧
    (Commands .cp1 (withWork (fun w => { w with origin := ⟨0, 17, 0⟩ }) base) ∧ ValueIs [0, 17] 1 2 (0 :: 17 :: zeros 34) ∧ NamesItem 1 1 (.origin .cp1) ∧
      DuplicateOrigin (withWork (fun w => { w with origin := ⟨0, 17, 0⟩ }) base).work [0, 17] (.origin .cp1)) := by
  have names : ∀ item, ¬ NamesItem 13 0 item := by intro item; cases item <;> simp [NamesItem]
  have fits : FitsItem 1 2 := by intro n _ h; simpa [encodingLengths] using h
  refine ⟨listed_commands, fun value h => absurd h.1 (by decide), fun value h => ?_, ⟨by decide, rfl, ?_⟩, names, ⟨⟨by decide, rfl, fits⟩, ⟨rfl, rfl⟩, ?_, ?_⟩,
    ⟨by decide, by decide, .inr (by intro q; cases q <;> decide)⟩, by unfold TakenAs; decide +kernel,
    ⟨⟨⟨rfl, rfl, by decide⟩, rfl⟩, ⟨by decide, rfl, fits⟩, ⟨rfl, rfl⟩, .cp1, rfl, by decide, by decide, .cp2, by decide, by decide⟩⟩
  · have := h.2.2 2 (by decide) rfl
    simp at this
  · intro n _ h; simp [encodingLengths] at h
  · intro v hv
    cases v <;> simp only [Setting.item, reduceCtorEq] at hv
    rintro ⟨h1, h2, -⟩
    rw [h1] at h2
    exact absurd h2 (by decide)
  · rintro ⟨p, -, -, h, -⟩
    exact absurd h (by decide)

/-- A renewal and a conflict at a proposal of CP1, an addition to seven proposals, and an offer to a full list of eight. -/
theorem witness_ProposeAnswered_list : Stands ⟨.cp1, .settle 50, 9⟩ .settle (listed eight) ∧ Setting.settle 50 ≠ .settle 5000 ∧
    (∀ q, ¬ Stands q .tagType (listed eight)) ∧ eight.length = 8 ∧ eight.tail.length < 8 ∧ (∀ q, ¬ Stands q .settle (listed eight.tail)) := by
  have h1 : (listed eight).settings.proposals.find? (fun r => decide (r.setting.item = .tagType)) = none := by decide +kernel
  have h2 : (listed eight.tail).settings.proposals.find? (fun r => decide (r.setting.item = .settle)) = none := by decide +kernel
  refine ⟨by unfold Stands; decide +kernel, by decide, fun q h => ?_, by decide, by decide, fun q h => ?_⟩
  · exact absurd (h1.symm.trans h) nofun
  · exact absurd (h2.symm.trans h) nofun

/-- What a PROPOSE of CP3 asks that commits the proposal of CP1 for the setting `v`. -/
def Commits (code index : Byte) (value : List Byte) (v : Setting) : Prop :=
  Commands .cp3 (listed [⟨.cp1, v, 9⟩]) ∧ ValueIs value code (BitVec.ofNat 16 value.length) (value ++ zeros 36) ∧ NamesItem code index v.item ∧
    TakenAs (listed [⟨.cp1, v, 9⟩]).work value v ∧ Stands ⟨.cp1, v, 9⟩ v.item (listed [⟨.cp1, v, 9⟩]) ∧ v ≠ .restart

theorem commits (code index : Byte) (value : List Byte) (v : Setting) (h1 : value.length ≤ 36) (h2 : FitsItem code value.length) (h3 : NamesItem code index v.item)
    (h4 : TakenAs base.work value v) (h5 : v ≠ .restart) : Commits code index value v := by
  have hl : (BitVec.ofNat 16 value.length).toNat = value.length := by simp only [BitVec.toNat_ofNat]; omega
  refine ⟨listed_commands _ _, ⟨by rw [hl]; simp, by rw [hl]; simp, by rw [hl]; exact h2⟩, h3, h4, ?_, h5⟩
  simp [Stands, listed]

/-- Every item but RESTART: ORIGIN, ADDRESS, ATTEND, the two types, CLASS_MAP, SETTLE, FORGET, OWNER, TRIGGER and FILTER. -/
theorem witness_CommitActs : Commits 1 2 [0, 17] (.origin .cp2 17) ∧ Commits 2 1 [2, 0, 0, 0, 0, 1] (.address .cp1 0x020000000001) ∧
    Commits 3 3 [0xFF, 0xFF] (.attend .cp3 none) ∧ Commits 4 0 [0x89, 0xE4] (.tagType 0x89E4) ∧ Commits 5 0 [0x89, 0xE4] (.controlType 0x89E4) ∧
    Commits 6 0 (1 :: 0x88 :: 0xB8 :: zeros 15) (.classMap [0x88B8] []) ∧ Commits 7 0 [0, 50] (.settle 50) ∧ Commits 8 0 [0, 99] (.forget 100) ∧
    Commits 9 7 [2] (.owner 7 (some .cp2)) ∧ Commits 10 0 [0x23] (.trigger 0 (.level 3)) ∧ Commits 11 3 [21] (.filter 3 20) := by
  have fits : ∀ (code : Byte) (n : Nat), encodingLengths[code.toNat - 1]? = some n → FitsItem code n := by
    intro code n h m _ hm; exact Option.some.inj (h.symm.trans hm)
  have set : SetOf [0x88B8] (1 :: 0x88 :: 0xB8 :: zeros 15) 1 1 ∧ SetOf [] (1 :: 0x88 :: 0xB8 :: zeros 15) 10 0 := by
    refine ⟨⟨by decide, fun x => ⟨fun h => ⟨0, by decide, ?_⟩, ?_⟩⟩, by decide, fun x => by simp⟩
    · simp only [List.mem_singleton] at h; rw [h]; decide
    · rintro ⟨i, hi, h⟩
      obtain rfl : i = 0 := by omega
      rw [← h]; decide
  refine ⟨commits _ _ _ _ (by decide) (fits _ _ rfl) ⟨rfl, rfl⟩ ⟨by decide, by decide, .inr (by intro q; cases q <;> decide)⟩ (by decide),
    commits _ _ _ _ (by decide) (fits _ _ rfl) ⟨rfl, rfl⟩ (by show _ = _; decide) (by decide), commits _ _ _ _ (by decide) (fits _ _ rfl) ⟨rfl, rfl⟩ (by unfold TakenAs; decide +kernel) (by decide),
    commits _ _ _ _ (by decide) (fits _ _ rfl) ⟨rfl, rfl⟩ ⟨by decide, by decide⟩ (by decide),
    commits _ _ _ _ (by decide) (fits _ _ rfl) ⟨rfl, rfl⟩ ⟨by decide, by decide⟩ (by decide),
    commits _ _ _ _ (by decide) (fits _ _ rfl) ⟨rfl, rfl⟩ ⟨by decide, by decide, set.1, set.2⟩ (by decide), commits _ _ _ _ (by decide) (fits _ _ rfl) ⟨rfl, rfl⟩ (by unfold TakenAs; decide +kernel) (by decide),
    commits _ _ _ _ (by decide) (fits _ _ rfl) ⟨rfl, rfl⟩ (by unfold TakenAs; decide +kernel) (by decide), commits _ _ _ _ (by decide) (fits _ _ rfl) ⟨rfl, rfl⟩ (by unfold TakenAs; decide +kernel) (by decide),
    commits _ _ _ _ (by decide) (fits _ _ rfl) ⟨rfl, rfl⟩ (by unfold TakenAs; decide +kernel) (by decide), commits _ _ _ _ (by decide) (fits _ _ rfl) ⟨rfl, rfl⟩ (by unfold TakenAs; decide +kernel) (by decide)⟩

theorem witness_RestartCommits : Commands .cp3 restartProposed ∧ Stands ⟨.cp1, .restart, 2000000⟩ .restart restartProposed ∧ Port.cp1 ≠ .cp3 :=
  ⟨⟨⟨rfl, rfl, by decide⟩, rfl⟩, by unfold Stands; decide +kernel, by decide⟩

/-- The window's end, to the microsecond; an unknown item; the proposer's WITHDRAW and another port's; an item without a proposal. -/
theorem witness_ProposalsEnd : Stands ⟨.cp1, .settle 50, 2000000⟩ .settle proposed ∧ ({ proposed with clock := 2000000 }.clock - 2000000).toNat < 2147483648 ∧
    Commands .cp1 proposed ∧ Commands .cp2 proposed ∧ (∀ item, ¬ NamesItem 13 0 item) ∧ NamesItem 7 0 .settle ∧ NamesItem 8 0 .forget ∧
    (∀ q, ¬ Stands q .forget proposed) := by
  have h : proposed.settings.proposals.find? (fun r => decide (r.setting.item = .forget)) = none := by decide +kernel
  exact ⟨by unfold Stands; decide +kernel, by decide, ⟨⟨rfl, rfl, by decide⟩, rfl⟩, ⟨⟨rfl, rfl, by decide⟩, rfl⟩, witness_ProposeAnswered.2.2.2.2.1, ⟨rfl, rfl⟩, ⟨rfl, rfl⟩,
    fun q hq => absurd (h.symm.trans hq) nofun⟩

/-- CP1 with STREAM_QUIET and LOOP pending, a lane of 15, and an empty slot; the same with the slot taken. -/
def noticed : NoticeUnit :=
  { NoticeUnit.fresh with
    causes := updAt (updAt NoticeUnit.fresh.causes Cause.loop.idx (fun r => { r with pending := true, count := 1 })) Cause.streamQuiet.idx
      (fun r => { r with pending := true, count := 3 }) }

theorem witness_NoticePresented : (State.port { withPort { portBusy with lane := List.replicate 15 waitingFrame } base with notices := ⟨noticed, .fresh, .fresh⟩ } .cp1).linkUp = true ∧
    { portBusy with lane := List.replicate 15 waitingFrame }.lane.length < 16 ∧ portBusy.present = true ∧ noticed.slot = none ∧ (noticed.of .streamQuiet).pending = true ∧
    (noticed.of .streamQuiet).enabled = true ∧ (∀ d : Cause, d.idx < Cause.streamQuiet.idx → (noticed.of d).pending = false) ∧
    { noticed with slot := some (.line, 1) }.slot ≠ none := ⟨rfl, by decide, rfl, rfl, by decide +kernel, by decide +kernel, by intro d; cases d <;> decide +kernel, by decide⟩

/-- Sets of 4095 and 4096; the cause in service, another known one, and the codes 12 and 13. -/
theorem witness_EnableAndAck : Commands .cp1 base ∧ (4095#16).toNat < 4096 ∧ 4096 ≤ (4096#16).toNat ∧
    { NoticeUnit.fresh with slot := some (.imageFault, 1) }.slot = some (Cause.imageFault, 1) ∧ (∃ c : Cause, (12#8).toNat = c.idx.val + 1) ∧
    (∀ c k, NoticeUnit.fresh.slot ≠ some (c, k)) ∧ 12 < (13#8).toNat := ⟨base_commands, by decide, by decide, rfl, ⟨.resync, by decide⟩, by simp [NoticeUnit.fresh], by decide⟩

/-- A key with an entry, the only one of its key, and a key without; an origin of 0 and a class of 3; each kind with an argument at its bounds and past them. -/
theorem witness_QueryAnswers : Commands .cp1 (withEntry live17 [] base) ∧ keyOrigin (be16 0x01 0x18) = 17 ∧ keyClass (be16 0x01 0x18) = some .trip ∧
    ((withEntry live17 [] base).entry 0).key = some ⟨17, .trip⟩ ∧ (∀ j, ((withEntry live17 [] base).entry j).key = some ⟨17, .trip⟩ → j = 0) ∧
    keyOrigin (be16 0x0E 0x64) = 230 ∧ keyClass (be16 0x0E 0x64) = some .sampled ∧ (∀ i, ((withEntry live17 [] base).entry i).key ≠ some ⟨230, .sampled⟩) ∧
    keyClass (be16 0 0x0C) = none ∧ (keyOrigin (be16 0 0)).toNat = 0 ∧ (1#8).toNat = 1 ∧ 1 < (2#8).toNat ∧ (3#8).toNat = portNumber .cp3 ∧ 3 < (4#8).toNat ∧
    (7#8).toNat = (7 : ChanId).val ∧ 7 < (8#8).toNat ∧ NamesItem 11 3 (.filter 3) ∧ (∀ item, ¬ NamesItem 13 0 item) ∧ 8 < (9#8).toNat := by
  have he : ∀ j k, ((withEntry live17 [] base).entry j).key = some k → j = 0 ∧ k = ⟨17, .trip⟩ := by
    intro j k h
    rw [withEntry_entry] at h
    split at h
    · exact ⟨‹_›, Option.some.inj h.symm⟩
    · cases h
  exact ⟨⟨⟨rfl, rfl, by show (0 : Nat) < 16; decide⟩, rfl⟩, by decide, by decide, by rw [entry17]; rfl, fun j h => (he j _ h).1, by decide, by decide,
    fun i h => absurd (he i _ h).2 (by decide), by decide, by decide, by decide, by decide, by decide, by decide, by decide, by decide, ⟨rfl, rfl⟩,
    witness_ProposeAnswered.2.2.2.2.1, by decide⟩

/-! ## Witnesses of further clauses: one theorem for a clause that the theorem of its statement leaves out -/

theorem tick_pool (s : State) : (tick s).pool = s.pool :=
  noteChoice_only (dueCommands { s with clock := s.clock + 1 }) { s with clock := s.clock + 1 } .pool (by simp)

/-- A step at which buffer 0 is held before and after. -/
theorem witness_PoolStaysCounted_bytes : ∃ t, step (withBuffer base) = .next t ∧ ((withBuffer base).pool.bufs.get 0).count ≠ 0 ∧ (t.pool.bufs.get 0).count ≠ 0 :=
  ⟨_, rfl, by decide +kernel, by rw [tick_pool]; decide +kernel⟩

/-- Channel 0 SENDING for CP1, the others without an owner and EMPTY. -/
theorem witness_ChannelsStaySound_owned : ChannelsOwned (withChan sending base) ∧ StartingIdle (withChan sending base) ∧ ∃ t, step (withChan sending base) = .next t :=
  ⟨by unfold ChannelsOwned; decide +kernel, nofun, _, rfl⟩

/-- CP1 with a full routine queue, at a free count of 33. -/
def fullQueue : ClientPort := { portHere with tx := some ⟨.lane, none, []⟩, routine := List.replicate 128 447 }
def dropping : State := { withPort fullQueue base with pool := poolWith 33 }

/-- A multicast frame that is given to it: no place in the queue is the buffer that the frame takes, the lowest of the 33. -/
theorem witness_UntaggedDelivered_drop : Listens .a dropping ∧ TakesByAddress dropping (frameDst (frameData (withCheck (goose ++ zeros 1454)))) .cp1 ∧
    PoolSound dropping ∧ 33 ≤ dropping.pool.free ∧ (∀ b : BufId, b.val < 33 → b ∉ fullQueue.queue false) ∧ places false ≤ (fullQueue.queue false).length := by
  refine ⟨⟨by show lineUp.link ≠ _; decide, rfl⟩, ⟨rfl, .inl (by rw [withCheck_data]; decide +kernel)⟩, poolWith_counts _ _ (by decide), (poolWith_free 33).ge, fun b hb h => ?_,
    (List.length_replicate (n := 128) (a := (447 : BufId))).ge⟩
  simp only [fullQueue, ClientPort.queue, Bool.false_eq_true, if_false, List.mem_replicate] at h
  rw [h.2] at hb
  exact absurd hb (by decide)

/-- CP1 owns a COMMAND burst and has a notice in service, and the other ports are PRESENT: at its link loss, at its window's end and at its RESTART_PORT. -/
theorem witness_AttendanceLost_burst :
    let s := { chanState sending with notices := ⟨{ NoticeUnit.fresh with slot := some (.peer, 2) }, .fresh, .fresh⟩, clock := 1000001 }
    Commands .cp1 s ∧ (s.port .cp1).window = some s.clock ∧ EndsWith .cp1 s 0 ∧ ¬ EndsWith .cp1 s 1 ∧ (s.notice .cp1).slot = some (.peer, 2) ∧ PoolSound s ∧
      (s.port .cp2).present = true :=
  ⟨⟨⟨rfl, rfl, by show (0 : Nat) < 16; decide⟩, rfl⟩, rfl, ⟨rfl, rfl, .inl rfl⟩, fun h => absurd h.1 (by decide +kernel), rfl, pool_sound _ (buffer_fits base), rfl⟩

/-- A code that is not listed, from an ABSENT port and at a full lane. -/
theorem witness_ClientFramesJudged_unlisted : decodeControl (frameData (withCheck (head 0x11 ++ zeros 40))) = (0x020000000002, 0x1234, .unknown 0x11) ∧
    64 ≤ (withCheck (head 0x11 ++ zeros 40)).length ∧ frameType (frameData (withCheck (head 0x11 ++ zeros 40))) = base.work.controlType ∧
    LaneOpen .cp1 (withPort (.fresh true none) base) ∧ ((withPort (.fresh true none) base).port .cp1).present = false ∧
    ((withPort { portBusy with lane := List.replicate 16 waitingFrame } base).port .cp1).lane.length = 16 := by
  rw [withCheck_length, withCheck_data]
  exact ⟨by decide, by decide, by decide, ⟨rfl, rfl, by decide⟩, rfl, rfl⟩

/-- The GENERAL frame of `witness_DataFrameOriginated` has a neighbour, a TRIP frame none. -/
theorem witness_DataFrameOriginated_near : frameType (frameData (withCheck ((head 0x01).take 12 ++ [8, 0] ++ zeros 46))) ∉ classed.work.tripSet ++ classed.work.sampledSet ∧
    isMulticast (frameDst (frameData (withCheck ((head 0x01).take 12 ++ [8, 0] ++ zeros 46)))) = false ∧
    ∀ q, ¬ (q ≠ Port.cp1 ∧ Cls.trip = .general ∧ isMulticast (frameDst (frameData (withCheck goose))) = false ∧ Matches classed (frameDst (frameData (withCheck goose))) q) := by
  rw [withCheck_data]
  exact ⟨by decide +kernel, by decide +kernel, fun q h => absurd h.2.1 (by decide)⟩

/-- A key word names its key with its line and spare bits clear and set, at the bounds of the origin. -/
theorem witness_key_words : NamesKey 0x0118 ⟨17, .trip⟩ ∧ NamesKey 0x011B ⟨17, .trip⟩ ∧ NamesKey 0x0016 ⟨1, .sampled⟩ ∧ NamesKey 0xFA07 ⟨4000, .sampled⟩ ∧
    NamesKey (be16 0x01 0x1B) ⟨17, .trip⟩ ∧ NamesKey (be16 0x0E 0x67) ⟨230, .sampled⟩ := by unfold NamesKey; decide

/-- Buffers 0 and 1 hold `goose` once each: the current and the next template of channel 0. -/
def withBuffers (s : State) : State :=
  { s with pool := { Pool.fresh with bufs := (Pool.fresh.bufs.set 0 { count := 1, frame := goose }).set 1 { count := 1, frame := goose }, free := 446 } }

theorem buffers_count (s : State) (b : BufId) : ((withBuffers s).pool.bufs.get b).count = if b.val < 2 then 1 else 0 := by
  simp only [withBuffers, Vector.get_eq_getElem, Vector.getElem_set]
  by_cases h0 : b.val = 0
  · simp [h0]
  · by_cases h1 : b.val = 1
    · simp [h1]
    · have h2 : ¬ b.val < 2 := by omega
      simp [Ne.symm h0, Ne.symm h1, h2, Pool.fresh]

theorem buffers_fits (s : State) : fits (withBuffers s).pool := by
  have h : ∀ b : BufId, decide (((withBuffers s).pool.bufs.get b).count = 0) = decide (2 ≤ b.val) := by
    intro b
    rw [buffers_count]
    by_cases hb : b.val < 2 <;> simp [hb, Nat.not_le.2, Nat.not_lt.1]
  unfold fits
  simp only [h]
  rw [count_buffers (fun b => decide (2 ≤ b))]
  show 446 = _ ∧ (false = true → 446 ≤ 64) ∧ (false = false → 33 ≤ 446)
  decide +kernel

/-- CP1's channel 0, which stands as `x` with two templates that nothing else holds, of `n` and of `m` sends; with the trigger `g`. -/
def chained (x : Channel) (n m : Nat) (g : Trigger) : State :=
  withWork (fun w => { w with trigger := w.trigger.set 0 g })
    (withChan { x with cur := some ⟨0, ⟨2, 1000, n⟩⟩, nxt := some ⟨1, ⟨2, 1000, m⟩⟩ } (withBuffers base))

theorem chained_held (x : Channel) (n m : Nat) (g : Trigger) : BuffersHeld (chained x n m g) := by
  intro b
  have hc : ∀ c : ChanId, same (((chained x n m g).chan c).cur.map Template.buf) (some b) + same (((chained x n m g).chan c).nxt.map Template.buf) (some b) =
      if c = 0 then same (some (0 : BufId)) (some b) + same (some 1) (some b) else 0 := by
    intro c
    show same (((base.chans.set 0 _).get c).cur.map Template.buf) _ + same (((base.chans.set 0 _).get c).nxt.map Template.buf) _ = _
    simp only [Vector.get_eq_getElem, Vector.getElem_set]
    by_cases h : c = 0
    · simp [h]
    · have h2 : ¬ (0 = c.val) := fun h2 => h (Fin.ext h2.symm)
      simp [h, h2, base, State.reset, State.powerOn, Channel.fresh, same]
  have hs : ((List.finRange Config.nChannels).map (fun c => if c = 0 then same (some (0 : BufId)) (some b) + same (some 1) (some b) else 0)).sum =
      same (some (0 : BufId)) (some b) + same (some 1) (some b) := by
    simp [Config.nChannels, List.finRange_succ]
  unfold references
  simp only [hc]
  rw [hs]
  clear hs hc
  show ((withBuffers base).pool.bufs.get b).count = _
  rw [buffers_count]
  have h0 : (0 : BufId) = b ↔ b.val = 0 := ⟨fun h => h ▸ rfl, fun h => Fin.ext h.symm⟩
  have h1 : (1 : BufId) = b ↔ b.val = 1 := ⟨fun h => h ▸ rfl, fun h => Fin.ext h.symm⟩
  simp only [same, Option.some.injEq, h0, h1]
  simp [allLines, allPorts, State.line, State.port, chained, withChan, withWork, withBuffers, base, lineUp, LinePort.fresh, portHere, ClientPort.fresh, PerLine.get, PerPort.get]
  rw [show (if b = 0 then 1 else 0) = if b.val = 0 then 1 else 0 from if_congr Fin.ext_iff rfl rfl]
  split <;> split <;> (try split) <;> omega

theorem chained_commands (x : Channel) (n m : Nat) (g : Trigger) : Commands .cp1 (chained x n m g) ∧ (chained x n m g).work.owner.get 0 = some .cp1 ∧
    (chained x n m g).work.trigger.get 0 = g ∧ PoolSound (chained x n m g) ∧
    (chained x n m g).chan 0 = { x with cur := some ⟨0, ⟨2, 1000, n⟩⟩, nxt := some ⟨1, ⟨2, 1000, m⟩⟩ } :=
  ⟨⟨⟨rfl, rfl, by show (0 : Nat) < 16; decide⟩, rfl⟩, rfl, rfl, pool_sound _ (buffers_fits base), rfl⟩

/-- REPLACE at SENDING of a burst of one send: with a next template, of one send and of three, and without; at a COMMAND and at an EDGE channel. -/
theorem witness_ReplaceSwaps_chained : (∀ m g, Commands .cp1 (chained sending 1 m g) ∧ BuffersHeld (chained sending 1 m g) ∧ PoolSound (chained sending 1 m g)) ∧
    ((chained sending 1 1 .command).chan 0).state = .sending ∧ ((chained sending 1 1 .command).chan 0).nxt = some ⟨1, ⟨2, 1000, 1⟩⟩ ∧
    (∀ n, (chained sending 1 3 (.edge 3)).work.trigger.get 0 ≠ .level n) ∧ 1 ≤ (chained sending 1 3 (.edge 3)).pool.free ∧
    ((chained sending 1 1 .command).pool.bufs.get 0).count ≠ 0 ∧ frameType goose ∈ (chained sending 1 1 .command).work.tripSet ∧
    ({ sending with cur := some (tmpl 2 1000 1) } : Channel).nxt = none :=
  ⟨fun m g => ⟨(chained_commands _ _ _ _).1, chained_held _ _ _ _, (chained_commands _ _ _ _).2.2.2.1⟩, rfl, rfl, nofun, by decide +kernel, by decide +kernel, by decide +kernel, rfl⟩

/-- The twelfth send of a burst with a next template, of one send and of three, at a COMMAND and at an EDGE channel. -/
theorem witness_SendTimeExpires_chained : ∀ m g, (g = .command ∨ g = .edge 3) →
    let s := chained { sending with sendCount := 11 } 12 m g
    (s.chan 0).sendTime = some 1000000 ∧ (s.clock - 1000000).toNat < 2147483648 ∧ s.work.owner.get 0 = some .cp1 ∧ (s.chan 0).cur = some (tmpl 2 1000 12) ∧
      (s.chan 0).nxt = some ⟨1, ⟨2, 1000, m⟩⟩ ∧ (s.chan 0).state = .sending ∧ (∀ n, s.work.trigger.get 0 ≠ .level n) ∧
      min ((s.chan 0).sendCount + 1) 65535 = 12 ∧ BuffersHeld s := by
  rintro m g hg
  exact ⟨rfl, by show ((1000000 : Time) - 1000000).toNat < _; decide, rfl, rfl, rfl, rfl, by rcases hg with rfl | rfl <;> nofun, rfl, chained_held _ _ _ _⟩

/-- A rising edge of line 3, at once with FILTER 0 and at an expiry, that a SENDING EDGE channel takes: bursts of one send with a next template, and of twelve. -/
theorem witness_InputsFiltered_edge : ∀ n,
    let s := chained sending n 1 (.edge 3)
    let f := withWork (fun w => { w with filter := Vector.replicate _ 0 }) s
    let e : State := { s with inputs := base.inputs.set 3 ⟨true, false, some 1000000, 0, 0, 0⟩ }
    (true ≠ (f.input 3).raw ∧ f.starting = false ∧ (f.input 3).change = none ∧ true ≠ (f.input 3).filtered ∧ f.work.filter.get 3 = 0 ∧ EdgeBegins 3 f 0 ∧
      ¬ EdgeBegins 3 f 1) ∧
    ((e.input 3).change = some 1000000 ∧ (e.clock - 1000000).toNat < 2147483648 ∧ (e.input 3).raw = true ∧ EdgeBegins 3 e 0) ∧ BuffersHeld s ∧
    (s.chan 0).cur = some (tmpl 2 1000 n) ∧ s.work.owner.get 0 = some .cp1 := by
  intro n
  refine ⟨⟨?_, rfl, ?_, ?_, rfl, .inl ⟨rfl, .inr rfl⟩, ?_⟩, ⟨?_, ?_, ?_, .inl ⟨rfl, .inr rfl⟩⟩, chained_held _ _ _ _, rfl, rfl⟩
  · show true ≠ (base.input 3).raw; decide +kernel
  · show (base.input 3).change = none; decide +kernel
  · show true ≠ (base.input 3).filtered; decide +kernel
  · rintro (⟨h, -⟩ | ⟨h, -⟩) <;> exact absurd (show Trigger.command = _ from h) nofun
  · show (State.input { base with inputs := base.inputs.set 3 ⟨true, false, some 1000000, 0, 0, 0⟩ } 3).change = some 1000000; decide +kernel
  · show ((1000000 : Time) - 1000000).toNat < _; decide
  · show (State.input { base with inputs := base.inputs.set 3 ⟨true, false, some 1000000, 0, 0, 0⟩ } 3).raw = true; decide +kernel

/-- The entry of an own origin, pinned and LIVE. -/
def localLive : Entry := { live17 with isLocal := true, hearing := none, lineDl := ⟨none, none⟩, localDl := some 1000000 }

theorem localLive_sound : EntrySound localLive :=
  ⟨nofun, fun _ => ⟨by decide, _, rfl, by decide, by decide⟩, by decide, nofun, fun _ => ⟨rfl, _, rfl, rfl, by decide, by decide⟩, by decide, by decide,
   nofun, nofun, by decide, by decide, by decide⟩

/-- CP1's proposal to give CP2 the origin `o`, with the one entry `e` and CP2 of origin `old`. -/
def originState (old o : Origin) : State := withWork (fun w => { w with origin := ⟨0, old, 0⟩ }) (listed [⟨.cp1, .origin .cp2 o, 9⟩])
def originAsked (old o : Origin) (e : Entry) (r : List EntryId) : State :=
  { withEntry e r (originState old o) with sup := ⟨⟨(e.inSilent .a).toNat, (e.inSilent .b).toNat⟩, e.inLive.toNat⟩ }

/-- What the statement asks of it, with CP3's PROPOSE: its table sound and its counts right. -/
def OriginAsked (old o : Origin) (e : Entry) (r : List EntryId) : Prop :=
  Commands .cp3 (originAsked old o e r) ∧ Stands ⟨.cp1, .origin .cp2 o, 9⟩ (.origin .cp2) (originAsked old o e r) ∧ TableSound (originAsked old o e r) ∧
    CountsAgree (originAsked old o e r) ∧ (originAsked old o e r).entry 0 = e

theorem originAsked_ok (old o : Origin) (e : Entry) (r : List EntryId) (he : EntrySound e) (hk : e.key = some ⟨17, .trip⟩) (hl : e.isLocal = decide (old = 17))
    (hr : (r = [0] ∧ e.state = .live ∧ e.pinned = false) ∨ (r = [] ∧ ¬ (e.state = .live ∧ e.pinned = false))) : OriginAsked old o e r := by
  refine ⟨⟨⟨rfl, rfl, by show (0 : Nat) < 16; decide⟩, rfl⟩, rfl, withEntry_sound e r (originState old o) ⟨17, .trip⟩ he hk ?_ hr, withEntry_agree e r (originState old o),
    entry17 e r (originState old o)⟩
  rw [hl, decide_eq_true_iff]
  refine ⟨fun h => ⟨.cp2, h⟩, fun ⟨p, hp⟩ => ?_⟩
  cases p
  · exact absurd (show (0 : Origin) = 17 from hp) (by decide)
  · exact hp
  · exact absurd (show (0 : Origin) = 17 from hp) (by decide)

/-- ORIGIN(CP2) from 0 to 17: a watched LIVE, an OPEN, a QUIET and an unpinned entry of 17 gain the mark; from 17 to 18: their local kin lose it. -/
theorem witness_CommitActs_origin :
    (∀ e ∈ [live17, openTrip, quiet17], OriginAsked 0 17 e []) ∧ OriginAsked 0 17 free17 [0] ∧
    (∀ e ∈ [localLive, local17, localQuiet], OriginAsked 17 18 e []) ∧ OriginAsked 17 18 localFree [0] ∧
    (live17.pinned = true ∧ live17.state = .live ∧ live17.sup = some 4) ∧ (localLive.pinned = true ∧ localLive.state = .live ∧ localLive.sup = some 4) := by
  refine ⟨?_, originAsked_ok _ _ _ _ (free17_sound ⟨17, .trip⟩ (by decide) (by decide)) rfl rfl (.inl ⟨rfl, rfl, rfl⟩), ?_,
    originAsked_ok _ _ _ _ local17_sound.2.2 rfl rfl (.inl ⟨rfl, rfl, rfl⟩), ⟨rfl, rfl, rfl⟩, ⟨rfl, rfl, rfl⟩⟩
  · rintro e he
    simp only [List.mem_cons, List.not_mem_nil, or_false] at he
    rcases he with rfl | rfl | rfl
    · exact originAsked_ok _ _ _ _ live17_sound rfl rfl (.inr ⟨rfl, by decide⟩)
    · exact originAsked_ok _ _ _ _ open17_sound rfl rfl (.inr ⟨rfl, by decide⟩)
    · exact originAsked_ok _ _ _ _ quiet17_sound rfl rfl (.inr ⟨rfl, by decide⟩)
  · rintro e he
    simp only [List.mem_cons, List.not_mem_nil, or_false] at he
    rcases he with rfl | rfl | rfl
    · exact originAsked_ok _ _ _ _ localLive_sound rfl rfl (.inr ⟨rfl, by decide⟩)
    · exact originAsked_ok _ _ _ _ local17_sound.1 rfl rfl (.inr ⟨rfl, by decide⟩)
    · exact originAsked_ok _ _ _ _ local17_sound.2.1 rfl rfl (.inr ⟨rfl, by decide⟩)

/-- An unpinned LIVE entry at a commit of FORGET: its last arrival is 4 ms past, and 100 ms at the later clock value, the least FORGET. -/
theorem witness_CommitActs_forget :
    let s := withEntry free17 [0] (listed [⟨.cp1, .forget 100, 9⟩])
    Commands .cp3 s ∧ Stands ⟨.cp1, .forget 100, 9⟩ .forget s ∧ TableSound s ∧ (s.entry 0).forgetDl = some 2000000 ∧ (s.entry 0).lastAny = some 996000 ∧
      (s.clock - 996000).toNat < 100 * 1000 ∧ 100 * 1000 = (({ s with clock := 1096000 } : State).clock - 996000).toNat :=
  ⟨⟨⟨rfl, rfl, by show (0 : Nat) < 16; decide⟩, rfl⟩, rfl, withEntry_sound _ _ _ _ (free17_sound ⟨17, .trip⟩ (by decide) (by decide)) rfl (base_origin _ (by decide))
    (.inl ⟨rfl, rfl, rfl⟩), by rw [entry17]; rfl, by rw [entry17]; rfl, by show ((1000000 : Time) - 996000).toNat < _; decide, by decide⟩

end Sys2Proof.Tests
end

section
/-! SUPPORT. Line frames that a reception drops (R3 to R5, R7, R8): what the receive checks make of such a frame, what a refused request for a buffer leaves,
and how its event ends; then the statement of the dropped line frames. -/

namespace Sys2Proof

open Sys2Proof.Machine

/-! ## Tag fields and local origins (R4, R5, R24) -/

theorem origin_ne_zero_iff (o : Origin) : o ≠ 0 ↔ 1 ≤ o.toNat := by bv_omega

theorem validOrigin_iff (o : Origin) : validOrigin o = true ↔ 1 ≤ o.toNat ∧ o.toNat ≤ 4000 := by
  simp only [validOrigin, Bool.and_eq_true, decide_eq_true_eq, origin_ne_zero_iff]

theorem keyClass_eq_none_iff (w : Word16) : keyClass w = none ↔ w.extractLsb' 2 2 = 3#2 := by
  have bits : ∀ x : BitVec 2, clsOfBits x = none ↔ x = 3#2 := by decide
  exact bits _

theorem isLocalOrigin_iff (s : State) (o : Origin) : isLocalOrigin s o = true ↔ o ≠ 0 ∧ ∃ p, s.work.origin.get p = o := by
  simp only [isLocalOrigin, Bool.and_eq_true, Bool.or_eq_true, decide_eq_true_eq]
  refine and_congr_right fun _ => ⟨?_, ?_⟩
  · rintro ((h | h) | h)
    · exact ⟨.cp1, h⟩
    · exact ⟨.cp2, h⟩
    · exact ⟨.cp3, h⟩
  · rintro ⟨p, h⟩
    cases p with
    | cp1 => exact .inl (.inl h)
    | cp2 => exact .inl (.inr h)
    | cp3 => exact .inr h

@[simp] theorem presentSet_get (s : State) (p : Port) : (presentSet s).get p = (s.port p).present := by cases p <;> rfl

/-! ## The receive checks in their order (R3, R4, R5) -/

theorem receiveLine_badCheck {l : Line} {frame : List Byte} {s : State}
    (bad : frame.length < 64 ∨ 1522 < frame.length ∨ checkMatches frame = false) :
    receiveLine l frame s = modLineCtr l (fun c => { c with badCheck := satInc c.badCheck }) s := if_pos bad

/-- A frame that passes the checks of R3 is told apart by its type alone. -/
theorem receiveLine_checked {l : Line} {frame : List Byte} {s : State} (low : 64 ≤ frame.length) (high : frame.length ≤ 1522)
    (ok : checkMatches frame = true) :
    receiveLine l frame s = if frameType (frameData frame) = s.work.tagType then receiveTagged l frame.length (frameData frame) s
      else receiveUntagged l (frameData frame) s := by
  refine if_neg ?_
  rintro (h | h | h)
  · omega
  · omega
  · simp [ok] at h

/-- A malformed tag (R4): an undefined class, an origin outside 1 to 4000, or a frame too short for a tag. -/
theorem receiveTagged_badTag {l : Line} {n : Nat} {data : List Byte} {s : State}
    (bad : n < 70 ∨ (keyOrigin (half data 14)).toNat = 0 ∨ 4000 < (keyOrigin (half data 14)).toNat ∨ (half data 14).extractLsb' 2 2 = 3#2) :
    receiveTagged l n data s = modLineCtr l (fun c => { c with badTag := satInc c.badTag }) s := by
  cases hc : keyClass (half data 14) with
  | none => simp only [receiveTagged, hc]
  | some cls =>
    have named : (half data 14).extractLsb' 2 2 ≠ 3#2 := by simp [← keyClass_eq_none_iff, hc]
    have malformed : validOrigin (keyOrigin (half data 14)) = false ∨ n < 70 := by
      rw [← Bool.not_eq_true, validOrigin_iff]
      rcases bad with h | h | h | h
      · exact .inr h
      · exact .inl (by omega)
      · exact .inl (by omega)
      · exact absurd h named
    simp only [receiveTagged, hc, if_pos malformed]

/-- A well-formed tag is judged by its origin: own-origin (R5), or remote (R6 to R9). -/
theorem receiveLine_tagged {l m : Line} {frame : List Byte} {s : State} {k : Key} {q : Seq} (tag : Tagged s.work.tagType k m q frame) :
    receiveLine l frame s =
      if isLocalOrigin s k.origin then
        raisePresent .loop (.loop l k.origin) (modLineCtr l (fun c => { c with ownOrigin := satInc c.ownOrigin }) s)
      else receiveRemote l (frameData frame) k m q s := by
  obtain ⟨long, high, ok, type, low, top, origin, cls, line, seq⟩ := tag
  have wellFormed : ¬ (validOrigin k.origin = false ∨ frame.length < 70) := by
    simp [(validOrigin_iff k.origin).2 ⟨low, top⟩, long]
  rw [receiveLine_checked (by omega) high ok, if_pos type]
  simp only [receiveTagged, cls, origin, line, seq, if_neg wellFormed]

/-- A frame of type TAG_TYPE with a malformed tag (R4). -/
theorem receiveLine_badTag {l : Line} {frame : List Byte} {s : State} (low : 64 ≤ frame.length) (high : frame.length ≤ 1522)
    (ok : checkMatches frame = true) (type : frameType (frameData frame) = s.work.tagType)
    (bad : frame.length < 70 ∨ (keyOrigin (half (frameData frame) 14)).toNat = 0 ∨ 4000 < (keyOrigin (half (frameData frame) 14)).toNat ∨
      (half (frameData frame) 14).extractLsb' 2 2 = 3#2) :
    receiveLine l frame s = modLineCtr l (fun c => { c with badTag := satInc c.badTag }) s := by
  rw [receiveLine_checked low high ok, if_pos type, receiveTagged_badTag bad]

/-- A frame of a client port's own origin (R5): no buffer is asked for. -/
theorem receiveLine_ownOrigin {l m : Line} {frame : List Byte} {s : State} {k : Key} {q : Seq} (tag : Tagged s.work.tagType k m q frame)
    (own : ∃ p, s.work.origin.get p = k.origin) :
    receiveLine l frame s =
      raisePresent .loop (.loop l k.origin) (modLineCtr l (fun c => { c with ownOrigin := satInc c.ownOrigin }) s) := by
  have ⟨_, _, _, _, low, _⟩ := tag
  rw [receiveLine_tagged tag, if_pos ((isLocalOrigin_iff s k.origin).2 ⟨(origin_ne_zero_iff _).2 low, own⟩)]

theorem receiveLine_remote {l m : Line} {frame : List Byte} {s : State} {k : Key} {q : Seq} (tag : Tagged s.work.tagType k m q frame)
    (remote : ∀ p, s.work.origin.get p ≠ k.origin) : receiveLine l frame s = receiveRemote l (frameData frame) k m q s := by
  rw [receiveLine_tagged tag, if_neg]
  intro h
  obtain ⟨-, p, own⟩ := (isLocalOrigin_iff s k.origin).1 h
  exact remote p own

theorem receiveLine_untagged {l : Line} {frame : List Byte} {s : State} (h : Untagged s.work.tagType frame) :
    receiveLine l frame s = receiveUntagged l (frameData frame) s := by
  obtain ⟨low, high, ok, type⟩ := h
  rw [receiveLine_checked low high ok, if_neg type]

/-! ## A refused request for a buffer (R8, R85, R88) -/

/-- The pool after a refused request: the refusal is counted as one of an empty pool or one of the reserve (R88). -/
def Machine.Pool.refused (q : Pool) : Pool :=
  if q.free = 0 then { q with emptyRefusals := satInc q.emptyRefusals } else { q with reserveRefusals := satInc q.reserveRefusals }

/-- The pool grants nothing under class `c`: it is empty, or only the trip reserve is left and the class is not TRIP (R85). -/
def Machine.Pool.Denies (q : Pool) (c : Cls) : Prop := q.free = 0 ∨ (c ≠ .trip ∧ q.free ≤ Config.reserve)

theorem takeBuffer_denied {c : Cls} {s : State} (frame : List Byte) (h : s.pool.Denies c) :
    takeBuffer (.reception c) frame s = (none, modPool Pool.refused s) := by
  by_cases empty : s.pool.free = 0
  · simp [takeBuffer, modPool, Pool.refused, empty]
  · obtain ⟨other, reserve⟩ := h.resolve_left empty
    simp [takeBuffer, modPool, Pool.refused, Request.fromReserve, empty, other, reserve]

theorem takeLineBuffer_denied {l : Line} {c : Cls} {s : State} (frame : List Byte) (h : s.pool.Denies c) :
    takeLineBuffer l c frame s = (none, modLineCtr l (fun c => { c with noBuffer := satInc c.noBuffer }) (modPool Pool.refused s)) := by
  rw [takeLineBuffer, takeBuffer_denied frame h]

theorem receiveUntagged_denied {l : Line} {data : List Byte} {s : State} (h : s.pool.Denies .general) :
    receiveUntagged l data s = modLineCtr l (fun c => { c with noBuffer := satInc c.noBuffer }) (modPool Pool.refused s) := by
  rw [receiveUntagged, takeLineBuffer_denied data h]

/-- A remote frame without a buffer is counted no-buffer, and crossed besides where its line field names the other line (R6, R8). -/
theorem receiveRemote_denied {l m : Line} {data : List Byte} {k : Key} {q : Seq} {s : State} (h : s.pool.Denies k.cls) :
    receiveRemote l data k m q s = modLineCtr l (fun c => { c with
      noBuffer := satInc c.noBuffer, crossed := if m = l then c.crossed else satInc c.crossed }) (modPool Pool.refused s) := by
  by_cases own : m = l
  · simp only [receiveRemote, if_pos own, takeLineBuffer_denied (removeTag data) h]
  · have after : (modLineCtr l (fun c => { c with crossed := satInc c.crossed }) s).pool.Denies k.cls := h
    simp only [receiveRemote, if_neg own, takeLineBuffer_denied (removeTag data) after]
    cases l <;> rfl

/-! ## How the event of a dropped frame ends -/

/-- A reception that changes of its line the counters alone, no count of supervision, and no cause but LOOP: no verdict and no POOL subject follows. -/
theorem lineFrameCompletion_ends {l : Line} {frame : List Byte} {s u : State} {ps : List Part} {c : LineCounters} (hear : Listens l s)
    (received : receiveLine l frame s = u) (only : OnlyChanges ps s u) (lines : ∀ m, m ≠ l → Part.line m ∉ ps) (sup : Part.sup ∉ ps)
    (causes : OnlyCauses [.loop] s u) (counted : u.line l = { s.line l with ctr := c }) :
    exec (.lineFrameCompletion l frame) s = .next (presentAll u) := by
  have links : ∀ m, (u.line m).link = (s.line m).link := by
    intro m
    by_cases own : m = l
    · rw [own, counted]
    · exact congrArg LinePort.link (only (.line m) (lines m own))
  calc exec (.lineFrameCompletion l frame) s
      = event (receiveLine l frame) s := if_pos hear
    _ = .next (presentAll (judgeVerdicts s (tellPool s u))) := by rw [event_eq, received]
    _ = .next (presentAll u) := by rw [tellPool_of_causes causes (by decide), judgeVerdicts_same links (only .sup sup)]

/-- A frame that is only counted at its line. -/
theorem lineFrameCompletion_counted {l : Line} {frame : List Byte} {s : State} {f : LineCounters → LineCounters} (hear : Listens l s)
    (received : receiveLine l frame s = modLineCtr l f s) :
    ∃ u, exec (.lineFrameCompletion l frame) s = .next (presentAll u) ∧ OnlyChanges [.line l] s u ∧
      u.line l = { s.line l with ctr := f (s.line l).ctr } := by
  have only := modLineCtr_only l f s
  have counted : (modLineCtr l f s).line l = { s.line l with ctr := f (s.line l).ctr } := modLine_line l _ s
  exact ⟨_, lineFrameCompletion_ends hear received only (by simp) (by simp) (OnlyCauses.of_only only (by simp)) counted, only, counted⟩

/-- A frame that is counted at its line and in the pool's refusals. -/
theorem lineFrameCompletion_denied {l : Line} {frame : List Byte} {s : State} {f : LineCounters → LineCounters} (hear : Listens l s)
    (received : receiveLine l frame s = modLineCtr l f (modPool Pool.refused s)) :
    ∃ u, exec (.lineFrameCompletion l frame) s = .next (presentAll u) ∧ OnlyChanges [.line l, .pool] s u ∧
      u.line l = { s.line l with ctr := f (s.line l).ctr } ∧ RefusalCounted s u := by
  have only : OnlyChanges [.line l, .pool] s (modLineCtr l f (modPool Pool.refused s)) :=
    (modPool_only _ s).comp (modLineCtr_only l f _) (by simp) (by simp)
  have counted : (modLineCtr l f (modPool Pool.refused s)).line l = { s.line l with ctr := f (s.line l).ctr } := modLine_line l _ _
  exact ⟨_, lineFrameCompletion_ends hear received only (by simp) (by simp) (OnlyCauses.of_only only (by simp)) counted, only, counted, rfl⟩

/-- A frame that is counted at its line and raises LOOP at the PRESENT ports (R5). -/
theorem lineFrameCompletion_loop {l : Line} {frame : List Byte} {s : State} {f : LineCounters → LineCounters} {subj : Subject} (hear : Listens l s)
    (received : receiveLine l frame s = raisePresent .loop subj (modLineCtr l f s)) :
    ∃ u, exec (.lineFrameCompletion l frame) s = .next (presentAll u) ∧ OnlyChanges (.line l :: noticeParts) s u ∧
      u.line l = { s.line l with ctr := f (s.line l).ctr } ∧ RaisedExactly .loop subj (fun p => (s.port p).present = true) s u := by
  have raise := raisePresent_only .loop subj (modLineCtr l f s)
  have only : OnlyChanges (.line l :: noticeParts) s (raisePresent .loop subj (modLineCtr l f s)) :=
    (modLineCtr_only l f s).comp raise (by simp) (by simp)
  have counted : (raisePresent .loop subj (modLineCtr l f s)).line l = { s.line l with ctr := f (s.line l).ctr } :=
    (raise (.line l) (by simp [noticeParts])).trans (modLine_line l _ s)
  have raised : RaisedExactly .loop subj (fun p => (s.port p).present = true) s (raisePresent .loop subj (modLineCtr l f s)) := by
    have h := raiseSet_raises .loop subj (presentSet s) (modLineCtr l f s)
    simp only [presentSet_get] at h
    exact h
  exact ⟨_, lineFrameCompletion_ends hear received only (by simp [noticeParts]) (by simp [noticeParts]) raised.causes counted, only, counted, raised⟩

/-- Settles O23: each clause is one outcome of the receive checks, and its event ends as the line counters, the refused pool or LOOP say. -/
theorem lineFramesDropped : Obligations.LineFramesDropped := by
  unfold Obligations.LineFramesDropped
  intro l frame s hear
  refine ⟨fun bad => ?badCheck, fun low high ok type bad => ?badTag, fun k m q tag own => ?ownOrigin, fun k m q tag remote denied => ?noBuffer,
    fun untagged reserve => ?untaggedNoBuffer⟩
  case badCheck => exact lineFrameCompletion_counted hear (receiveLine_badCheck bad)
  case badTag => exact lineFrameCompletion_counted hear (receiveLine_badTag low high ok type bad)
  case ownOrigin => exact lineFrameCompletion_loop hear (receiveLine_ownOrigin tag own)
  case noBuffer => exact lineFrameCompletion_denied hear ((receiveLine_remote tag remote).trans (receiveRemote_denied denied))
  case untaggedNoBuffer =>
    have denied : s.pool.Denies .general := .inr ⟨by decide, reserve⟩
    exact lineFrameCompletion_denied hear ((receiveLine_untagged untagged).trans (receiveUntagged_denied denied))

end Sys2Proof
end

section
/-! SUPPORT. Frames that a line reception delivers: how the pool and its POOL notices go with a buffer from its take to its last release, what a client port
makes of a frame that it is given, and who is given a frame by its address. -/

namespace Sys2Proof

open Sys2Proof.Machine

/-! ## Reading a client port through a frame -/

theorem OnlyChanges.present {ps : List Part} {s t : State} (h : OnlyChanges ps s t) {p : Port} (hp : Part.port p ∉ ps) :
    (t.port p).present = (s.port p).present := by
  have plain : (t.port p).plain = (s.port p).plain := h (.port p) hp
  exact (congrArg ClientPort.present plain :)

theorem OnlyChanges.port {ps : List Part} {s t : State} (h : OnlyChanges ps s t) {p : Port} (hp : Part.port p ∉ ps)
    (hq : Part.queues p ∉ ps) : t.port p = s.port p := by
  have plain : (t.port p).plain = (s.port p).plain := h (.port p) hp
  obtain ⟨urgent, routine, lane, tx, sent⟩ := h (.queues p) hq
  cases ht : t.port p
  cases hs : s.port p
  simp_all [ClientPort.plain]

/-! ## The pool (R83, R87) -/

/-- A judgement of the pool state changes of the pool nothing but that state. -/
theorem judgePool_pool (s : State) : ∃ low, (judgePool s).pool = { s.pool with low := low } := by
  unfold judgePool
  split
  · exact ⟨true, raisePresent_only _ _ _ .pool (by simp [noticeParts])⟩
  · split
    · exact ⟨false, raisePresent_only _ _ _ .pool (by simp [noticeParts])⟩
    · exact ⟨s.pool.low, rfl⟩

@[simp] theorem judgePool_bufs (s : State) : (judgePool s).pool.bufs = s.pool.bufs := by obtain ⟨_, h⟩ := judgePool_pool s; rw [h]
@[simp] theorem judgePool_lowWater (s : State) : (judgePool s).pool.lowWater = s.pool.lowWater := by
  obtain ⟨_, h⟩ := judgePool_pool s; rw [h]
@[simp] theorem judgePool_reserveRefusals (s : State) : (judgePool s).pool.reserveRefusals = s.pool.reserveRefusals := by
  obtain ⟨_, h⟩ := judgePool_pool s; rw [h]
@[simp] theorem judgePool_emptyRefusals (s : State) : (judgePool s).pool.emptyRefusals = s.pool.emptyRefusals := by
  obtain ⟨_, h⟩ := judgePool_pool s; rw [h]

/-- A release leaves everything of the pool but its buffers and the free count, which rises by at most one. -/
theorem Machine.Pool.released_figures (q : Pool) (b : BufId) :
    (q.released b).low = q.low ∧ (q.released b).lowWater = q.lowWater ∧ (q.released b).reserveRefusals = q.reserveRefusals ∧
      (q.released b).emptyRefusals = q.emptyRefusals ∧ q.free ≤ (q.released b).free ∧ (q.released b).free ≤ q.free + 1 := by
  unfold Pool.released
  dsimp only
  split
  · simp
  · split <;> simp

@[simp] theorem Machine.Pool.released_other (q : Pool) {a b : BufId} (ne : a ≠ b) : (q.released b).bufs.get a = q.bufs.get a := by
  unfold Pool.released
  dsimp only
  split
  · rfl
  · split <;> simp [ne]

/-- A buffer that is still held after a release of one of its references holds its frame. -/
theorem Machine.Pool.released_held (q : Pool) (b : BufId) (held : ((q.released b).bufs.get b).count ≠ 0) :
    ((q.released b).bufs.get b).frame = (q.bufs.get b).frame ∧ (q.bufs.get b).count ≠ 0 := by
  unfold Pool.released at held ⊢
  dsimp only at held ⊢
  split at held
  · contradiction
  · split at held
    · simp at held
    · simp_all

theorem raisePresent_of (c : Cause) (subj : Subject) (s : State) (p : Port) : ((raisePresent c subj s).notice p).of c =
    if (s.port p).present = true then ((s.notice p).of c).raised subj else (s.notice p).of c := by
  obtain ⟨raised, kept⟩ := raiseSet_raises c subj (presentSet s) s p
  simp only [presentSet_get] at raised kept
  split
  · next here => exact (raised here).2.1
  · next away => exact congrArg (NoticeUnit.of · c) (kept away)

/-! ## POOL follows the pool state through an event (R87) -/

/-- In the course of an event that began in `s` the pool has been judged in turn, with at most `n` releases since a change to LOW: POOL stands raised
once, with the new state, exactly if the state has changed, and the free count is too far from the opposite bound for a change back. -/
structure PoolFollows (n : Nat) (s t : State) : Prop where
  present : ∀ q, (t.port q).present = (s.port q).present
  told : ∀ q, (t.notice q).of .pool = if t.pool.low ≠ s.pool.low ∧ (s.port q).present = true
    then ((s.notice q).of .pool).raised (.pool t.pool.low none) else (s.notice q).of .pool
  fallen : t.pool.low = true → s.pool.low = false → t.pool.free ≤ 32 + n
  risen : t.pool.low = false → s.pool.low = true → 65 ≤ t.pool.free

theorem PoolFollows.mono {m n : Nat} {s t : State} (h : PoolFollows m s t) (le : m ≤ n) : PoolFollows n s t :=
  ⟨h.present, h.told, fun low ample => (h.fallen low ample).trans (by omega), h.risen⟩

/-- Before any change of the pool state. -/
theorem PoolFollows.start {s t : State} (low : t.pool.low = s.pool.low) (ports : t.ports = s.ports) (notices : t.notices = s.notices) :
    PoolFollows 0 s t where
  present q := by rw [port_congr ports]
  told q := by simp [low, notice_congr notices]
  fallen h k := by simp_all
  risen h k := by simp_all

/-- An operation that leaves the pool state, and at most `k` buffers freed, with no cause raised but others than POOL. -/
theorem PoolFollows.step {n : Nat} {s t u : State} {cs : List Cause} (h : PoolFollows n s t) (k : Nat) (low : u.pool.low = t.pool.low)
    (least : t.pool.free ≤ u.pool.free) (most : u.pool.free ≤ t.pool.free + k) (present : ∀ q, (u.port q).present = (t.port q).present)
    (causes : OnlyCauses cs t u) (quiet : Cause.pool ∉ cs) : PoolFollows (n + k) s u where
  present q := (present q).trans (h.present q)
  told q := by rw [(causes q).2 .pool quiet, h.told q, low]
  fallen isLow ample := by have := h.fallen (low ▸ isLow) ample; omega
  risen ample wasLow := (h.risen (low ▸ ample) wasLow).trans least

/-- The first change of the pool state. -/
theorem PoolFollows.switch {n : Nat} {s t : State} (h : PoolFollows n s t) (low : Bool) (first : t.pool.low = s.pool.low)
    (change : low ≠ t.pool.low) (fallen : low = true → t.pool.free ≤ 32 + n) (risen : low = false → 65 ≤ t.pool.free) :
    PoolFollows n s (raisePresent .pool (.pool low none) { t with pool := { t.pool with low := low } }) := by
  have only := raisePresent_only .pool (.pool low none) { t with pool := { t.pool with low := low } }
  have pool : (raisePresent .pool (.pool low none) { t with pool := { t.pool with low := low } }).pool = { t.pool with low := low } :=
    only .pool (by simp [noticeParts])
  have before : ∀ q, (t.notice q).of .pool = (s.notice q).of .pool := fun q => by rw [h.told q, if_neg (by simp [first])]
  constructor
  case present => exact fun q => (only.present (by simp [noticeParts])).trans (h.present q)
  case told =>
    intro q
    rw [raisePresent_of, pool]
    show (if (t.port q).present = true then ((t.notice q).of .pool).raised _ else (t.notice q).of .pool) = _
    simp [before q, h.present q, first ▸ change]
  case fallen => rw [pool]; exact fun isLow _ => fallen isLow
  case risen => rw [pool]; exact fun ample _ => risen ample

theorem PoolFollows.judge {n : Nat} {s t : State} (h : PoolFollows n s t) (few : n ≤ 32) : PoolFollows n s (judgePool t) := by
  unfold judgePool
  split
  · next falls =>
    obtain ⟨ample, scarce⟩ : t.pool.low = false ∧ t.pool.free ≤ 32 := by simpa using falls
    have first : t.pool.low = s.pool.low := by
      cases was : s.pool.low with
      | false => exact ample
      | true => have := h.risen ample was; omega
    exact h.switch true first (by simp [ample]) (fun _ => by omega) (by simp)
  · split
    · next rises =>
      obtain ⟨low, plenty⟩ : t.pool.low = true ∧ 65 ≤ t.pool.free := by simpa using rises
      have first : t.pool.low = s.pool.low := by
        cases was : s.pool.low with
        | true => exact low
        | false => have := h.fallen low was; omega
      exact h.switch false first (by simp [low]) (by simp) (fun _ => plenty)
    · exact h

theorem PoolFollows.release {n : Nat} {s t : State} (h : PoolFollows n s t) (few : n < 32) (b : BufId) : PoolFollows (n + 1) s (release b t) := by
  obtain ⟨low, -, -, -, least, most⟩ := t.pool.released_figures b
  exact PoolFollows.judge (h.step 1 low least most (fun _ => rfl) (OnlyCauses.refl [] _) (by simp)) (by omega)

/-- With the free count filled in at the end of the event, POOL has been told as R87 says. -/
theorem PoolFollows.told_after {n : Nat} {s t : State} (h : PoolFollows n s t) (sound : PoolSound s) : PoolTold s (tellPool s t) := by
  obtain ⟨-, -, -, filled⟩ := sound
  have pool : (tellPool s t).pool = t.pool := tellPool_only s t .pool (by simp [noticeParts])
  intro q
  obtain ⟨-, record, -⟩ := tellPool_notice s t q
  rw [PoolToldAt, pool, record, ← NoticeUnit.of_pool_subject, h.told q]
  refine ⟨fun change here => ?_, fun same => ?_⟩
  · have unlike : some (Subject.pool t.pool.low none) ≠ (s.notice q).poolSubject := (filled q _).symm
    simp [change, here, CauseRecord.raised, unlike, Subject.withFree]
  · have quiet : ¬ (t.pool.low ≠ s.pool.low ∧ (s.port q).present = true) := by rcases same with same | away <;> simp_all
    rw [if_neg quiet]
    simp

/-! ## A reception's buffer, from its take to its last release (R9, R83) -/

/-- In the course of a reception that began in `s`, buffer `b` has been taken for a frame and is held, and at most `n` references to other buffers have been
released. -/
structure Carries (n : Nat) (b : BufId) (frame : List Byte) (s t : State) : Prop where
  pool : PoolFollows n s t
  takes : Takes b frame s t
  held : (t.pool.bufs.get b).count ≠ 0

theorem Carries.frameOf {n : Nat} {b : BufId} {frame : List Byte} {s t : State} (h : Carries n b frame s t) : t.frameOf b = frame :=
  h.takes.2.2.1 h.held

theorem Carries.mono {m n : Nat} {b : BufId} {frame : List Byte} {s t : State} (h : Carries m b frame s t) (le : m ≤ n) : Carries n b frame s t :=
  ⟨h.pool.mono le, h.takes, h.held⟩

/-- The figures of a take stand, and the frame with them as long as the buffer is held. -/
theorem Takes.later {b : BufId} {frame : List Byte} {s t u : State} (h : Takes b frame s t)
    (buffer : (u.pool.bufs.get b).count ≠ 0 → (u.pool.bufs.get b).frame = (t.pool.bufs.get b).frame ∧ (t.pool.bufs.get b).count ≠ 0)
    (lowWater : u.pool.lowWater = t.pool.lowWater) (reserve : u.pool.reserveRefusals = t.pool.reserveRefusals)
    (empty : u.pool.emptyRefusals = t.pool.emptyRefusals) : Takes b frame s u := by
  obtain ⟨free, lowest, stored, hl, hr, he⟩ := h
  refine ⟨free, lowest, fun held => ?_, lowWater.trans hl, reserve.trans hr, empty.trans he⟩
  obtain ⟨same, was⟩ := buffer held
  exact same.trans (stored was)

theorem Takes.release {b : BufId} {frame : List Byte} {s t : State} (h : Takes b frame s t) (a : BufId) : Takes b frame s (release a t) := by
  obtain ⟨-, lowWater, reserve, empty, -, -⟩ := t.pool.released_figures a
  refine h.later (fun held => ?_) (by simpa [Machine.release] using lowWater) (by simpa [Machine.release] using reserve)
    (by simpa [Machine.release] using empty)
  simp only [Machine.release, judgePool_bufs, modPool_pool] at held ⊢
  by_cases same : b = a
  · subst same; exact t.pool.released_held b held
  · rw [Pool.released_other _ same] at held ⊢; exact ⟨rfl, held⟩

/-- An operation that touches neither the pool nor POOL nor the presence of a port. -/
theorem Carries.keep {n : Nat} {b : BufId} {frame : List Byte} {s t u : State} {cs : List Cause} (h : Carries n b frame s t)
    (pool : u.pool = t.pool) (present : ∀ q, (u.port q).present = (t.port q).present) (causes : OnlyCauses cs t u) (quiet : Cause.pool ∉ cs) :
    Carries n b frame s u where
  pool := h.pool.step 0 (by rw [pool]) (by rw [pool]) (by rw [pool]; omega) present causes quiet
  takes := h.takes.later (fun held => by rw [pool] at held ⊢; exact ⟨rfl, held⟩) (by rw [pool]) (by rw [pool]) (by rw [pool])
  held := by rw [pool]; exact h.held

theorem Carries.keep_only {n : Nat} {b : BufId} {frame : List Byte} {s t u : State} {ps : List Part} (h : Carries n b frame s t)
    (only : OnlyChanges ps t u) (pool : Part.pool ∉ ps) (ports : ∀ q, Part.port q ∉ ps) (notices : ∀ q, Part.notice q ∉ ps) :
    Carries n b frame s u :=
  h.keep (cs := []) (only .pool pool) (fun q => only.present (ports q)) (OnlyCauses.of_only only notices) (by simp)

theorem Carries.addRef {n : Nat} {b : BufId} {frame : List Byte} {s t : State} (h : Carries n b frame s t) : Carries n b frame s (addRef b t) := by
  have held := h.held
  constructor
  case pool => exact h.pool.step 0 rfl (Nat.le_refl _) (Nat.le_refl _) (fun _ => rfl) (OnlyCauses.refl [] _) (by simp)
  case takes => exact h.takes.later (fun _ => by simp [Machine.addRef, Pool.added, held]) rfl rfl rfl
  case held => simp [Machine.addRef, Pool.added, held]

theorem Carries.release {n : Nat} {a b : BufId} {frame : List Byte} {s t : State} (h : Carries n b frame s t) (ne : b ≠ a) (few : n < 32) :
    Carries (n + 1) b frame s (release a t) where
  pool := h.pool.release few a
  takes := h.takes.release a
  held := by simpa [Machine.release, ne] using h.held

/-! ## A frame given to a client port (R94, R95, R99) -/

@[simp] theorem Machine.ClientPort.withQueue_present (x : ClientPort) (urgent : Bool) (q : List BufId) :
    (x.withQueue urgent q).present = x.present := by cases urgent <;> rfl
@[simp] theorem Machine.ClientPort.withQueue_tx (x : ClientPort) (urgent : Bool) (q : List BufId) : (x.withQueue urgent q).tx = x.tx := by
  cases urgent <;> rfl

theorem modPort_present {p : Port} {f : ClientPort → ClientPort} (kept : ∀ x, (f x).present = x.present) (s : State) (q : Port) :
    ((modPort p f s).port q).present = (s.port q).present := by
  by_cases same : q = p
  · subst same; simp [kept]
  · simp [same]

theorem modPortCtr_present (p : Port) (f : PortCounters → PortCounters) (s : State) (q : Port) :
    ((modPortCtr p f s).port q).present = (s.port q).present := modPort_present (f := fun x => { x with ctr := f x.ctr }) (fun _ => rfl) s q

theorem modLineCtr_line (l : Line) (f : LineCounters → LineCounters) (s : State) :
    (modLineCtr l f s).line l = { s.line l with ctr := f (s.line l).ctr } := modLine_line l _ s

theorem modLineCtr_link (l : Line) (f : LineCounters → LineCounters) (s : State) (m : Line) :
    ((modLineCtr l f s).line m).link = (s.line m).link := by
  by_cases own : m = l
  · rw [own, modLineCtr_line]
  · exact congrArg LinePort.link (modLine_line_other l m _ s own)

theorem raiseAt_causes (c : Cause) (subj : Subject) (p : Port) (s : State) : OnlyCauses [c] s (raiseAt c subj p s) := by
  intro q
  by_cases same : q = p
  · subst same
    obtain ⟨slot, -, others⟩ := raiseAt_raises c subj q s
    exact ⟨slot, fun d hd => others d (by simpa using hd)⟩
  · rw [raiseAt_notice_other c subj s same]; exact ⟨rfl, fun _ _ => rfl⟩

theorem release_port (a : BufId) (s : State) (p : Port) : (release a s).port p = s.port p :=
  (release_only a s).port (by simp [poolParts, noticeParts]) (by simp [poolParts, noticeParts])

theorem startClientTx_busy {p : Port} {s : State} (busy : (s.port p).tx.isSome = true) : startClientTx p s = s := by
  unfold startClientTx
  dsimp only
  split <;> simp_all

/-- An idle transmitter takes the one frame that waits at its port (R99). -/
theorem startClientTx_single {p : Port} {urgent : Bool} {b : BufId} {s : State} {x : ClientPort} (port : s.port p = x.withQueue urgent [b])
    (up : x.linkUp = true) (idle : x.tx = none) (noUrgent : x.urgent = []) (noLane : x.lane = []) (noRoutine : x.routine = []) :
    (startClientTx p s).port p = { x with tx := some ⟨if urgent then .urgent else .routine, some b, withCheck (s.frameOf b)⟩ } := by
  cases urgent <;> simp [startClientTx, port, ClientPort.withQueue, up, idle, noUrgent, noLane, noRoutine]

theorem startClientTx_notice (p q : Port) (s : State) : (startClientTx p s).notice q = s.notice q :=
  startClientTx_only p s (.notice q) (by simp)

/-- Buffer `b` joins the tail of a port's queue in place of what the queue held before, with a new reference. -/
def joinedAs (p : Port) (urgent : Bool) (b : BufId) (before : List BufId) (s : State) : State :=
  modPort p (fun x => x.withQueue urgent (before ++ [b])) (addRef b s)

/-- The same in place of a full queue's head, which is counted as lost and told, and is not yet released (R95). -/
def headLost (p : Port) (urgent : Bool) (b : BufId) (rest : List BufId) (s : State) : State :=
  let c := (s.port p).ctr.lossCounted urgent
  raiseAt .queueLoss (.queueLoss (!urgent) c.urgentLoss c.routineLoss) p
    (modPort p (fun x => { x.withQueue urgent (rest ++ [b]) with ctr := c }) (addRef b s))

/-- The three ways in which a port takes a frame: coalesced with a waiting entry, at the tail of a queue with room, or in the place of a full queue's
head. -/
theorem giveClient_cases (p : Port) (urgent : Bool) (b : BufId) (s : State) :
    (b ∈ (s.port p).queue urgent ∧ giveClient p urgent b s = modPortCtr p (fun c => { c with coalesced := satInc c.coalesced }) s) ∨
    (b ∉ (s.port p).queue urgent ∧ ((s.port p).queue urgent).length < places urgent ∧
      giveClient p urgent b s = startClientTx p (joinedAs p urgent b ((s.port p).queue urgent) s)) ∨
    ∃ a rest, (s.port p).queue urgent = a :: rest ∧ b ∉ (s.port p).queue urgent ∧ places urgent ≤ ((s.port p).queue urgent).length ∧
      giveClient p urgent b s = startClientTx p (release a (headLost p urgent b rest s)) := by
  by_cases waits : b ∈ (s.port p).queue urgent
  · exact .inl ⟨waits, if_pos waits⟩
  · refine .inr ?_
    rw [giveClient, if_neg waits, joinClient]
    cases queue : (s.port p).queue urgent with
    | nil => exact .inl ⟨by simp, by cases urgent <;> decide, rfl⟩
    | cons a rest =>
      by_cases full : places urgent ≤ (a :: rest).length
      · exact .inr ⟨a, rest, rfl, queue ▸ waits, full, by simp only [if_pos full, headLost]⟩
      · exact .inl ⟨queue ▸ waits, by omega, by simp only [if_neg full, joinedAs]⟩

@[simp] theorem joinedAs_port (p : Port) (urgent : Bool) (b : BufId) (before : List BufId) (s : State) :
    (joinedAs p urgent b before s).port p = (s.port p).withQueue urgent (before ++ [b]) := modPort_port ..

@[simp] theorem headLost_port (p : Port) (urgent : Bool) (b : BufId) (rest : List BufId) (s : State) : (headLost p urgent b rest s).port p =
    { (s.port p).withQueue urgent (rest ++ [b]) with ctr := (s.port p).ctr.lossCounted urgent } := by
  exact modPort_port p (fun x => { x.withQueue urgent (rest ++ [b]) with ctr := (s.port p).ctr.lossCounted urgent }) (addRef b s)

theorem headLost_queueLoss (p : Port) (urgent : Bool) (b : BufId) (rest : List BufId) (s : State) :
    ((headLost p urgent b rest s).notice p).of .queueLoss = ((s.notice p).of .queueLoss).after
      [.queueLoss (!urgent) ((s.port p).ctr.lossCounted urgent).urgentLoss ((s.port p).ctr.lossCounted urgent).routineLoss] :=
  (raiseAt_raises _ _ p _).2.1

theorem release_queueLoss (a : BufId) (s : State) (p : Port) : ((release a s).notice p).of .queueLoss = (s.notice p).of .queueLoss :=
  (release_causes a s p).2 _ (by decide)

theorem headLost_causes (p : Port) (urgent : Bool) (b : BufId) (rest : List BufId) (s : State) :
    OnlyCauses [.queueLoss] s (headLost p urgent b rest s) := by
  exact raiseAt_causes _ _ p (modPort p _ (addRef b s))

theorem headLost_present (p : Port) (urgent : Bool) (b : BufId) (rest : List BufId) (s : State) (q : Port) :
    ((headLost p urgent b rest s).port q).present = (s.port q).present := by
  exact modPort_present (f := fun x => { x.withQueue urgent (rest ++ [b]) with ctr := (s.port p).ctr.lossCounted urgent })
    (fun x => x.withQueue_present urgent _) (addRef b s) q

/-- What becomes of the buffer and the pool while a port is given the frame: at most the one dropped head is released. -/
theorem Carries.giveClient {n : Nat} {b : BufId} {frame : List Byte} {s t : State} (h : Carries n b frame s t) (few : n < 32) (p : Port)
    (urgent : Bool) : Carries (n + 1) b frame s (giveClient p urgent b t) := by
  have start : ∀ {m u}, Carries m b frame s u → Carries m b frame s (startClientTx p u) := fun k =>
    k.keep_only (startClientTx_only p _) (by simp) (by simp) (by simp)
  rcases giveClient_cases p urgent b t with ⟨-, given⟩ | ⟨-, -, given⟩ | ⟨a, rest, queue, other, -, given⟩ <;> rw [given]
  · have counted : Carries n b frame s (modPortCtr p (fun c => { c with coalesced := satInc c.coalesced }) t) :=
      h.keep rfl (modPortCtr_present p _ t) (OnlyCauses.refl [] t) (by simp)
    exact counted.mono (by omega)
  · have joined : Carries n b frame s (joinedAs p urgent b ((t.port p).queue urgent) t) :=
      h.addRef.keep rfl (modPort_present (by simp) _) (OnlyCauses.refl [] t) (by simp)
    exact (start joined).mono (by omega)
  · have ne : b ≠ a := by rintro rfl; simp [queue] at other
    have lost : Carries n b frame s (headLost p urgent b rest t) :=
      h.addRef.keep rfl (headLost_present p urgent b rest t) (headLost_causes p urgent b rest t) (by simp)
    exact start (lost.release ne few)

theorem giveClient_causes (p : Port) (urgent : Bool) (b : BufId) (s : State) : OnlyCauses [.pool, .queueLoss] s (giveClient p urgent b s) := by
  have start : ∀ t, OnlyCauses [.pool, .queueLoss] t (startClientTx p t) := fun t => OnlyCauses.of_only (startClientTx_only p t) (by simp)
  rcases giveClient_cases p urgent b s with ⟨-, given⟩ | ⟨-, -, given⟩ | ⟨a, rest, -, -, -, given⟩ <;> rw [given]
  · exact OnlyCauses.refl _ s
  · exact start (joinedAs p urgent b _ s)
  · exact (((headLost_causes p urgent b rest s).mono (by simp)).trans ((release_causes a _).mono (by simp))).trans (start _)

/-- The record of a port that is given the frame which its reception carries (R94, R95, R99). -/
theorem giveClient_given {n : Nat} {b : BufId} {frame : List Byte} {s t : State} (h : Carries n b frame s t) (p : Port) (urgent : Bool) :
    Given urgent b frame (t.port p) ((giveClient p urgent b t).port p) := by
  rcases giveClient_cases p urgent b t with ⟨waits, given⟩ | ⟨new, room, given⟩ | ⟨a, rest, queue, new, full, given⟩ <;> rw [given]
  · refine ⟨fun _ => by simp [modPortCtr], fun new => absurd waits new, fun new => absurd waits new, fun _ _ noUrgent _ noRoutine => ?_⟩
    cases urgent <;> simp [ClientPort.queue, noUrgent, noRoutine] at waits
  · refine ⟨fun waits => absurd waits new, fun _ busy _ => ?_, fun _ _ full => absurd full (by omega), fun up idle noUrgent noLane noRoutine => ?_⟩
    · rw [startClientTx_busy (by simpa using busy), joinedAs_port]
    · have alone : (t.port p).queue urgent = [] := by cases urgent <;> simp [ClientPort.queue, noUrgent, noRoutine]
      have stored : (joinedAs p urgent b ((t.port p).queue urgent) t).frameOf b = frame := h.addRef.frameOf
      rw [startClientTx_single (by rw [joinedAs_port, alone]; rfl) up idle noUrgent noLane noRoutine, stored]
  · refine ⟨fun waits => absurd waits new, fun _ _ room => absurd full (by omega), fun _ busy _ => ?_, fun _ _ noUrgent _ noRoutine => ?_⟩
    · rw [startClientTx_busy (by simpa [release_port] using busy), release_port, headLost_port, queue, List.tail_cons]
    · cases urgent <;> simp [ClientPort.queue, noUrgent, noRoutine] at queue

/-- QUEUE_LOSS at a port that is given a frame (R95). -/
theorem giveClient_lossTold (p : Port) (urgent : Bool) (b : BufId) (s : State) : LossTold True urgent b p s (giveClient p urgent b s) := by
  rcases giveClient_cases p urgent b s with ⟨waits, given⟩ | ⟨new, room, given⟩ | ⟨a, rest, queue, new, full, given⟩ <;> rw [given]
  · exact ⟨fun ⟨_, new, _⟩ => absurd waits new, fun _ => rfl⟩
  · rw [LossTold, startClientTx_notice]
    exact ⟨fun ⟨_, _, full⟩ => absurd full (by omega), fun _ => rfl⟩
  · rw [LossTold, startClientTx_notice, release_queueLoss]
    exact ⟨fun _ => headLost_queueLoss p urgent b rest s, fun none => absurd ⟨trivial, new, full⟩ none⟩

/-! ## A frame given to a set of ports -/

/-- What a delivery does at one port is not done at port `q`: its record and its QUEUE_LOSS are as before. -/
def PortKept (q : Port) (s t : State) : Prop := t.port q = s.port q ∧ (t.notice q).of .queueLoss = (s.notice q).of .queueLoss

theorem PortKept.trans {q : Port} {s t u : State} (h : PortKept q s t) (k : PortKept q t u) : PortKept q s u :=
  ⟨k.1.trans h.1, k.2.trans h.2⟩

theorem PortKept.of_only {ps : List Part} {cs : List Cause} {q : Port} {s t : State} (only : OnlyChanges ps s t) (port : Part.port q ∉ ps)
    (queues : Part.queues q ∉ ps) (causes : OnlyCauses cs s t) (quiet : Cause.queueLoss ∉ cs) : PortKept q s t :=
  ⟨only.port port queues, (causes q).2 _ quiet⟩

theorem giveClient_other {p q : Port} (ne : q ≠ p) (urgent : Bool) (b : BufId) (s : State) : PortKept q s (giveClient p urgent b s) := by
  refine ⟨(giveClient_only p urgent b s).port (by simp [portParts, poolParts, noticeParts, ne]) (by simp [portParts, poolParts, noticeParts, ne]), ?_⟩
  rcases giveClient_cases p urgent b s with ⟨-, given⟩ | ⟨-, -, given⟩ | ⟨a, rest, -, -, -, given⟩ <;> rw [given]
  · rfl
  · rw [startClientTx_notice]; rfl
  · rw [startClientTx_notice, release_queueLoss]
    exact congrArg (NoticeUnit.of · .queueLoss) (raiseAt_notice_other _ _ _ ne)

/-- What `GivenTo` says of a port does not change by what happens before and after at other ports. -/
theorem GivenTo.between {takes : Prop} {urgent : Bool} {b : BufId} {frame : List Byte} {q : Port} {s t u v : State} (before : PortKept q s t)
    (h : GivenTo takes urgent b frame q t u) (after : PortKept q u v) : GivenTo takes urgent b frame q s v := by
  simp only [GivenTo, LossTold, before.1, before.2, after.1, after.2] at h ⊢
  exact h

theorem PortKept.givenTo {takes : Prop} {urgent : Bool} {b : BufId} {frame : List Byte} {q : Port} {s t : State} (h : PortKept q s t)
    (none : ¬ takes) : GivenTo takes urgent b frame q s t :=
  ⟨fun yes => absurd yes none, fun _ => h.1, fun ⟨yes, _⟩ => absurd yes none, fun _ => h.2⟩

/-- The turn of one port in `giveSet`. -/
def giveIf (urgent : Bool) (b : BufId) (ports : PerPort Bool) (p : Port) (s : State) : State :=
  if ports.get p then giveClient p urgent b s else s

theorem giveSet_eq (urgent : Bool) (b : BufId) (ports : PerPort Bool) (s : State) :
    giveSet urgent b ports s = giveIf urgent b ports .cp3 (giveIf urgent b ports .cp2 (giveIf urgent b ports .cp1 s)) := rfl

theorem giveIf_other {p q : Port} (ne : q ≠ p) (urgent : Bool) (b : BufId) (ports : PerPort Bool) (s : State) :
    PortKept q s (giveIf urgent b ports p s) := by
  unfold giveIf
  split
  · exact giveClient_other ne urgent b s
  · exact ⟨rfl, rfl⟩

theorem giveIf_given {n : Nat} {b : BufId} {frame : List Byte} {s t : State} (h : Carries n b frame s t) (p : Port) (urgent : Bool)
    (ports : PerPort Bool) : GivenTo (ports.get p = true) urgent b frame p t (giveIf urgent b ports p t) := by
  unfold giveIf
  split
  · next takes =>
    rw [eq_true takes]
    exact ⟨fun _ => giveClient_given h p urgent, fun no => absurd trivial no, giveClient_lossTold p urgent b t⟩
  · next none => exact PortKept.givenTo ⟨rfl, rfl⟩ none

theorem Carries.giveIf {n : Nat} {b : BufId} {frame : List Byte} {s t : State} (h : Carries n b frame s t) (few : n < 32) (p : Port)
    (urgent : Bool) (ports : PerPort Bool) : Carries (n + 1) b frame s (giveIf urgent b ports p t) := by
  unfold Sys2Proof.giveIf
  split
  · exact h.giveClient few p urgent
  · exact h.mono (by omega)

theorem Carries.giveSet {b : BufId} {frame : List Byte} {s t : State} (h : Carries 0 b frame s t) (urgent : Bool) (ports : PerPort Bool) :
    Carries 3 b frame s (giveSet urgent b ports t) :=
  ((h.giveIf (by omega) .cp1 urgent ports).giveIf (by omega) .cp2 urgent ports).giveIf (by omega) .cp3 urgent ports

theorem giveSet_causes (urgent : Bool) (b : BufId) (ports : PerPort Bool) (s : State) :
    OnlyCauses [.pool, .queueLoss] s (giveSet urgent b ports s) := by
  have turn : ∀ p t, OnlyCauses [.pool, .queueLoss] t (giveIf urgent b ports p t) := fun p t => by
    unfold giveIf
    split
    · exact giveClient_causes p urgent b t
    · exact OnlyCauses.refl _ t
  exact ((turn .cp1 _).trans (turn .cp2 _)).trans (turn .cp3 _)

/-- Each port of the set is given the frame in its turn, and no other port is. -/
theorem giveSet_given {b : BufId} {frame : List Byte} {s t : State} (h : Carries 0 b frame s t) (urgent : Bool) (ports : PerPort Bool) (q : Port) :
    GivenTo (ports.get q = true) urgent b frame q t (giveSet urgent b ports t) := by
  have first := h.giveIf (by omega) .cp1 urgent ports
  have second := first.giveIf (by omega) .cp2 urgent ports
  have away : ∀ {p}, q ≠ p → ∀ u, PortKept q u (giveIf urgent b ports p u) := fun ne u => giveIf_other ne urgent b ports u
  rw [giveSet_eq]
  cases q with
  | cp1 => exact GivenTo.between ⟨rfl, rfl⟩ (giveIf_given h .cp1 urgent ports) ((away (by decide) _).trans (away (by decide) _))
  | cp2 => exact GivenTo.between (away (by decide) _) (giveIf_given first .cp2 urgent ports) (away (by decide) _)
  | cp3 => exact GivenTo.between ((away (by decide) _).trans (away (by decide) _)) (giveIf_given second .cp3 urgent ports) ⟨rfl, rfl⟩

/-! ## Delivery by address (R91) -/

theorem addressed_get (s : State) (dst : Addr) (q : Port) :
    (addressed s dst).get q = true ↔ isMulticast dst = true ∨ (s.work.address.get q = dst ∧ dst ≠ 0) := by
  unfold addressed
  split
  · next all => cases q <;> simp [PerPort.get, all]
  · next one => cases q <;> simp [PerPort.get, one]

/-- The ports that a line's frame reaches by its address are those that `TakesByAddress` names. -/
theorem presentOf_addressed (s : State) (dst : Addr) (q : Port) :
    (presentOf s (addressed s dst) none).get q = true ↔ TakesByAddress s dst q := by
  rw [TakesByAddress, ← addressed_get]
  cases q <;> simp [presentOf, PerPort.get, State.port, and_comm]

theorem isNone_iff (ports : PerPort Bool) : isNone ports = true ↔ ∀ q, ports.get q = false := by
  refine ⟨fun h q => ?_, fun h => ?_⟩
  · cases q <;> simp_all [isNone, PerPort.get]
  · simp [isNone, show ports.cp1 = false from h .cp1, show ports.cp2 = false from h .cp2, show ports.cp3 = false from h .cp3]

/-- A unicast frame that no PRESENT port takes is counted unmatched, and any other frame from a line is given by its address. -/
theorem deliverFromLine_eq {n : Nat} {b : BufId} {frame : List Byte} {s t : State} (h : Carries n b frame s t) (l : Line) :
    (isMulticast (frameDst frame) = false → (∀ q, ¬ TakesByAddress t (frameDst frame) q) →
      deliverFromLine l b t = modLineCtr l (fun c => { c with unmatched := satInc c.unmatched }) t) ∧
    (isMulticast (frameDst frame) = true ∨ (∃ q, TakesByAddress t (frameDst frame) q) →
      deliverFromLine l b t = giveSet false b (presentOf t (addressed t (frameDst frame)) none) t) := by
  have unmatched : isNone (presentOf t (addressed t (frameDst frame)) none) = true ↔ ∀ q, ¬ TakesByAddress t (frameDst frame) q := by
    simp only [isNone_iff, ← presentOf_addressed, Bool.not_eq_true]
  unfold deliverFromLine deliverAddress
  rw [h.frameOf]
  refine ⟨fun uni noPort => if_pos ?_, fun some => if_neg ?_⟩
  · simp [uni, unmatched.2 noPort]
  · rw [Bool.and_eq_true, unmatched]
    rcases some with multi | ⟨q, takes⟩
    · simp [multi]
    · exact fun ⟨_, noPort⟩ => noPort q takes

/-- A GENERAL or untagged frame from a line is handed on as `HandedOnFromLine` says, and its buffer is held throughout. -/
theorem deliverFromLine_handsOn {b : BufId} {frame : List Byte} {s t : State} (h : Carries 0 b frame s t) (l : Line) :
    Carries 3 b frame s (deliverFromLine l b t) ∧ OnlyCauses [.pool, .queueLoss] t (deliverFromLine l b t) ∧
      (∀ m, ((deliverFromLine l b t).line m).link = (t.line m).link) ∧
      HandedOnFromLine l b frame (t.line l).ctr t (deliverFromLine l b t) := by
  obtain ⟨counted, given⟩ := deliverFromLine_eq h l
  by_cases some : isMulticast (frameDst frame) = true ∨ ∃ q, TakesByAddress t (frameDst frame) q
  · rw [given some]
    have lines : ∀ m, (giveSet false b (presentOf t (addressed t (frameDst frame)) none) t).line m = t.line m :=
      fun m => giveSet_only _ _ _ _ (.line m) (by simp [deliveryParts, queueParts, poolParts, noticeParts])
    refine ⟨h.giveSet _ _, giveSet_causes _ b _ t, fun m => by rw [lines], fun _ => lines l, fun uni none => ?_, fun q => ?_⟩
    · rcases some with multi | ⟨q, takes⟩
      · simp [uni] at multi
      · exact absurd takes (none q)
    · rw [← presentOf_addressed]
      exact giveSet_given h false _ q
  · obtain ⟨uni, none⟩ : isMulticast (frameDst frame) = false ∧ ∀ q, ¬ TakesByAddress t (frameDst frame) q := by simpa using some
    rw [counted uni none]
    have only := modLineCtr_only l (fun c => { c with unmatched := satInc c.unmatched }) t
    exact ⟨(h.keep_only only (by simp) (by simp) (by simp)).mono (by omega), OnlyCauses.refl _ t, modLineCtr_link l _ t, fun yes => absurd yes some,
      fun _ _ => modLineCtr_line .., fun q => PortKept.givenTo ⟨rfl, rfl⟩ (none q)⟩

/-! ## The reception's buffer and counts (R6, R8, R9, R83) -/

theorem find?_finRange_eq_some {n : Nat} {p : Fin n → Bool} {i : Fin n} :
    (List.finRange n).find? p = some i ↔ p i = true ∧ ∀ j, j < i → p j = false := by
  rw [List.find?_eq_some_iff_getElem]
  refine and_congr_right fun _ => ⟨?_, fun below => ?_⟩
  · rintro ⟨k, hk, rfl, below⟩ j hj
    have := below j (by simpa [Fin.lt_def] using hj)
    simpa using this
  · exact ⟨i, by simp, by simp, fun j hj => by simpa using below ⟨j, hj.trans i.isLt⟩ hj⟩

/-- A pool whose free count is that of its buffers has a lowest free one unless the count is 0. -/
theorem lowestFree_of_sound {s : State} (sound : PoolSound s) (free : 1 ≤ s.pool.free) : ∃ b, s.pool.lowestFree = some b := by
  obtain ⟨counted, -⟩ := sound
  rw [counted, Nat.one_le_iff_ne_zero, Ne, List.length_eq_zero_iff, List.filter_eq_nil_iff] at free
  rw [← Option.isSome_iff_exists, Pool.lowestFree, List.find?_isSome]
  by_contra none
  exact free fun b hb free => none ⟨b, hb, free⟩

theorem lowestFree_spec {q : Pool} {b : BufId} (h : q.lowestFree = some b) :
    (q.bufs.get b).count = 0 ∧ ∀ a, a < b → (q.bufs.get a).count ≠ 0 := by
  simpa [Pool.lowestFree, find?_finRange_eq_some] using h

/-- The pool grants a buffer under class `c`: one is left above the trip reserve, or the class is TRIP and one is left at all (R85). -/
def Machine.Pool.Grants (q : Pool) (c : Cls) : Prop := 33 ≤ q.free ∨ (c = .trip ∧ 1 ≤ q.free)

theorem takeBuffer_granted {c : Cls} {s : State} {b : BufId} (frame : List Byte) (grants : s.pool.Grants c) (lowest : s.pool.lowestFree = some b) :
    takeBuffer (.reception c) frame s = (some b, judgePool (modPool (fun q => q.taken b frame) s)) := by
  have some : s.pool.free ≠ 0 := by rcases grants with h | ⟨-, h⟩ <;> omega
  have allowed : ¬ ((!(Request.reception c).fromReserve && decide (s.pool.free ≤ Config.reserve)) = true) := by
    rcases grants with h | ⟨trip, -⟩
    · have : ¬ s.pool.free ≤ 32 := by omega
      simp [this]
    · simp [Request.fromReserve, trip]
  rw [takeBuffer, if_neg some, if_neg allowed, lowest]

/-- A frame whose line field names the other line is counted crossed (R6). -/
def crossCounted (l m : Line) (s : State) : State := if m = l then s else modLineCtr l (fun c => { c with crossed := satInc c.crossed }) s

/-- The state in which a remote tagged frame is handed on: counted, and stored without its tag in the buffer taken for it (R6, R8, R9). -/
def receivedState (l m : Line) (b : BufId) (frame : List Byte) (s : State) : State :=
  modLineCtr l (fun c => { c with taggedIn := satInc c.taggedIn }) (judgePool (modPool (fun q => q.taken b frame) (crossCounted l m s)))

theorem crossCounted_only (l m : Line) (s : State) : OnlyChanges [.line l] s (crossCounted l m s) :=
  OnlyChanges.ite _ (fun _ => OnlyChanges.refl _ s) (fun _ => modLineCtr_only l _ s)

@[simp] theorem crossCounted_pool (l m : Line) (s : State) : (crossCounted l m s).pool = s.pool := crossCounted_only l m s .pool (by simp)

theorem receiveRemote_granted {l m : Line} {data : List Byte} {k : Key} {q : Seq} {s : State} {b : BufId} (grants : s.pool.Grants k.cls)
    (lowest : s.pool.lowestFree = some b) :
    receiveRemote l data k m q s = takeTagged l k q b (receivedState l m b (removeTag data) s) := by
  have taken : takeLineBuffer l k.cls (removeTag data) (crossCounted l m s) =
      (some b, judgePool (modPool (fun q => q.taken b (removeTag data)) (crossCounted l m s))) := by
    rw [takeLineBuffer, takeBuffer_granted (removeTag data) (by simpa using grants) (by simpa using lowest)]
  unfold crossCounted at taken
  simp only [receiveRemote, taken, receivedState, crossCounted]

theorem receivedState_only (l m : Line) (b : BufId) (frame : List Byte) (s : State) :
    OnlyChanges (.line l :: poolParts) s (receivedState l m b frame s) :=
  ((crossCounted_only l m s).comp ((modPool_only _ _).comp (judgePool_only _) (by simp [poolParts]) (fun _ h => h)) (by simp) (by simp)).trans
    ((modLineCtr_only l _ _).mono (by simp))

theorem receivedState_causes (l m : Line) (b : BufId) (frame : List Byte) (s : State) : OnlyCauses [.pool] s (receivedState l m b frame s) :=
  ((OnlyCauses.of_only (crossCounted_only l m s) (by simp)).trans (OnlyCauses.of_only (modPool_only _ _) (by simp))).trans
    ((judgePool_causes _).trans (OnlyCauses.of_only (modLineCtr_only l _ _) (by simp)))

theorem receivedState_line (l m : Line) (b : BufId) (frame : List Byte) (s : State) : (receivedState l m b frame s).line l =
    { s.line l with ctr := { (s.line l).ctr with
        taggedIn := satInc (s.line l).ctr.taggedIn, crossed := if m = l then (s.line l).ctr.crossed else satInc (s.line l).ctr.crossed } } := by
  have kept : ∀ t, (judgePool (modPool (fun q => q.taken b frame) t)).line l = t.line l :=
    fun t => judgePool_only _ (.line l) (by simp [poolParts, noticeParts])
  rw [receivedState, modLineCtr_line, kept]
  by_cases own : m = l
  · simp [crossCounted, own]
  · simp [crossCounted, own, modLineCtr_line]

/-- The take of the lowest free buffer, with the pool state judged. -/
theorem receivedState_carries {l m : Line} {b : BufId} {s : State} (frame : List Byte) (lowest : s.pool.lowestFree = some b) :
    Carries 0 b frame s (receivedState l m b frame s) := by
  obtain ⟨free, below⟩ := lowestFree_spec lowest
  have same : (crossCounted l m s).ports = s.ports ∧ (crossCounted l m s).notices = s.notices := by unfold crossCounted; split <;> simp
  have start : PoolFollows 0 s (modPool (fun q => q.taken b frame) (crossCounted l m s)) :=
    .start (by simp [Pool.taken]) same.1 same.2
  have taken : Carries 0 b frame s (judgePool (modPool (fun q => q.taken b frame) (crossCounted l m s))) :=
    { pool := start.judge (by omega)
      takes := ⟨free, below, by simp [Pool.taken], by simp [Pool.taken], by simp [Pool.taken], by simp [Pool.taken]⟩
      held := by simp [Pool.taken] }
  exact taken.keep_only (modLineCtr_only l _ _) (by simp) (by simp) (by simp)

/-! ## The end of a reception's event -/

/-- The event of a reception ends with its buffer's release and the free count told; what the hand-on has left is otherwise kept. -/
def receptionEnd (s : State) (b : BufId) (w : State) : State := tellPool s (release b w)

theorem receptionEnd_only (s : State) (b : BufId) (w : State) : OnlyChanges poolParts w (receptionEnd s b w) :=
  (release_only b w).trans ((tellPool_only s _).mono noticeParts_pool)

theorem receptionEnd_causes (s : State) (b : BufId) (w : State) : OnlyCauses [.pool] w (receptionEnd s b w) :=
  (release_causes b w).trans (tellPool_causes s _)

theorem receptionEnd_port (s : State) (b : BufId) (w : State) (q : Port) : PortKept q w (receptionEnd s b w) :=
  .of_only (receptionEnd_only s b w) (by simp [poolParts, noticeParts]) (by simp [poolParts, noticeParts]) (receptionEnd_causes s b w) (by decide)

theorem Carries.receptionEnd {n : Nat} {b : BufId} {frame : List Byte} {s w : State} (h : Carries n b frame s w) (few : n < 32) (sound : PoolSound s) :
    Takes b frame s (receptionEnd s b w) ∧ PoolTold s (receptionEnd s b w) := by
  have pool : (Sys2Proof.receptionEnd s b w).pool = (Machine.release b w).pool := tellPool_only s _ .pool (by simp [noticeParts])
  refine ⟨?_, (h.pool.release few b).told_after sound⟩
  exact (h.takes.release b).later (fun held => by rw [pool] at held ⊢; exact ⟨rfl, held⟩) (by rw [pool]) (by rw [pool]) (by rw [pool])

/-- A line reception whose effects touch neither a link state nor the counts judges no verdict anew. -/
theorem lineFrameCompletion_delivers {l : Line} {frame : List Byte} {s w : State} {b : BufId} (hear : Listens l s)
    (received : receiveLine l frame s = release b w) (links : ∀ m, (w.line m).link = (s.line m).link) (sup : w.sup = s.sup) :
    exec (.lineFrameCompletion l frame) s = .next (presentAll (receptionEnd s b w)) := by
  have only := receptionEnd_only s b w
  have same : judgeVerdicts s (receptionEnd s b w) = receptionEnd s b w := by
    refine judgeVerdicts_same (fun m => ?_) ((only .sup (by simp [poolParts, noticeParts])).trans sup)
    exact (congrArg LinePort.link (only (.line m) (by simp [poolParts, noticeParts]))).trans (links m)
  calc exec (.lineFrameCompletion l frame) s
      = event (receiveLine l frame) s := if_pos hear
    _ = .next (presentAll (judgeVerdicts s (receptionEnd s b w))) := by rw [event_eq, received]; rfl
    _ = .next (presentAll (receptionEnd s b w)) := by rw [same]

/-- What is said of a hand-on does not change by a step before it that leaves the ports and the settings, and one after it that leaves the ports and the
line. -/
theorem HandedOnFromLine.between {l : Line} {b : BufId} {frame : List Byte} {c : LineCounters} {s v w u : State}
    (h : HandedOnFromLine l b frame c v w) (work : v.work = s.work) (counted : v.line l = { s.line l with ctr := c })
    (before : ∀ q, PortKept q s v) (after : ∀ q, PortKept q w u) (line : u.line l = w.line l) : HandedOnFromLine l b frame c s u := by
  have takes : ∀ q, TakesByAddress v (frameDst frame) q ↔ TakesByAddress s (frameDst frame) q := fun q => by
    simp only [TakesByAddress, (before q).1, work]
  obtain ⟨matched, unmatched, given⟩ := h
  simp only [takes, counted, ← line] at matched unmatched
  exact ⟨matched, unmatched, fun q => GivenTo.between (before q) (propext (takes q) ▸ given q) (after q)⟩

end Sys2Proof
end

section
/-! SUPPORT. A tagged frame that founds an entry (R31, R32, R34): the entry that the allocation takes, the hand-on of the frame, and the event as a whole;
then the statement of the founding arrival. -/

namespace Sys2Proof

open Sys2Proof.Machine

/-! ## An arrival founds its entry (R31, R32, R34) -/

/-- From `s` to `t` an arrival `x` of key `k` has founded entry `i`, which is remote, and nothing but the table has changed. -/
def Founds (k : Key) (x : Arrival) (i : EntryId) (s t : State) : Prop :=
  OnlyChanges [.entry i, .recency, .tableCtr] s t ∧ t.entry i = arrivalEntry k false s.work.forget x

theorem lowestVacant_eq_some {i : EntryId} {s : State} (vacant : (s.entry i).state = .vacant) (lowest : ∀ j, j < i → (s.entry j).state ≠ .vacant) :
    lowestVacant s = some i := find?_finRange_eq_some.2 ⟨by simp [vacant], fun j hj => by simp [lowest j hj]⟩

theorem lowestVacant_eq_none {s : State} (full : ∀ j, (s.entry j).state ≠ .vacant) : lowestVacant s = none :=
  List.find?_eq_none.2 fun j _ => by simp [full j]

theorem findKey_eq_none {k : Key} {s : State} (new : ∀ j, (s.entry j).key ≠ some k) : findKey k s = none :=
  List.find?_eq_none.2 fun j _ => by simp [new j]

/-- The entry that an allocation takes is founded, and put at the tail of the recency list (R32). -/
theorem foundByArrival_taken {k : Key} {x : Arrival} {i : EntryId} {s t : State} (remote : isLocalOrigin s k.origin = false)
    (taken : takeEntry s = (some i, t)) (only : OnlyChanges [.entry i, .recency, .tableCtr] s t) :
    Founds k x i s (foundByArrival k x s) ∧ (foundByArrival k x s).table.recency = toTail i t.table.recency ∧
      (foundByArrival k x s).table.ctr = { t.table.ctr with arrivalAllocs := satInc t.table.ctr.arrivalAllocs } := by
  have eq : foundByArrival k x s = modRecency (toTail i) (modTableCtr (fun c => { c with arrivalAllocs := satInc c.arrivalAllocs })
      (modEntry i (fun _ => arrivalEntry k false s.work.forget x) t)) := by
    unfold foundByArrival
    simp only [taken, remote]
  rw [eq, Founds]
  have founded := ((modEntry_only i (fun _ => arrivalEntry k false s.work.forget x) t).comp
    (modTableCtr_only (fun c => { c with arrivalAllocs := satInc c.arrivalAllocs }) _) (rs := [.entry i, .recency, .tableCtr]) (by simp) (by simp)).trans
    ((modRecency_only (toTail i) _).mono (by simp))
  exact ⟨⟨only.trans founded, by simp⟩, by simp, by simp⟩

/-- The lowest VACANT entry is founded (R31, R32). -/
theorem foundByArrival_vacant {k : Key} {x : Arrival} {i : EntryId} {s : State} (remote : isLocalOrigin s k.origin = false)
    (vacant : (s.entry i).state = .vacant) (lowest : ∀ j, j < i → (s.entry j).state ≠ .vacant) :
    Founds k x i s (foundByArrival k x s) ∧
      (foundByArrival k x s).table.recency = s.table.recency.filter (fun j => decide (j ≠ i)) ++ [i] ∧
      (foundByArrival k x s).table.ctr = { s.table.ctr with arrivalAllocs := satInc s.table.ctr.arrivalAllocs } := by
  have taken : takeEntry s = (some i, s) := by
    unfold takeEntry
    rw [lowestVacant_eq_some vacant lowest]
  exact foundByArrival_taken remote taken (OnlyChanges.refl _ s)

/-- A full table has the head of its recency list evicted, and that entry is founded anew (R34, R32). -/
theorem foundByArrival_full {k : Key} {x : Arrival} {i : EntryId} {rest : List EntryId} {s : State} (remote : isLocalOrigin s k.origin = false)
    (full : ∀ j, (s.entry j).state ≠ .vacant) (oldest : s.table.recency = i :: rest) (once : s.table.recency.Nodup) :
    Founds k x i s (foundByArrival k x s) ∧ (foundByArrival k x s).table.recency = rest ++ [i] ∧
      (foundByArrival k x s).table.ctr =
        { s.table.ctr with arrivalAllocs := satInc s.table.ctr.arrivalAllocs, evictions := satInc s.table.ctr.evictions } := by
  have taken : takeEntry s = (some i, modTableCtr (fun c => { c with evictions := satInc c.evictions }) (vacate i s)) := by
    unfold takeEntry
    rw [lowestVacant_eq_none full, oldest]
  have evicted := (vacate_only i s).comp (modTableCtr_only (fun c => { c with evictions := satInc c.evictions }) _)
    (rs := [.entry i, .recency, .tableCtr]) (by simp) (by simp)
  have off : offList i rest = rest := by
    rw [oldest, List.nodup_cons] at once
    exact List.filter_eq_self.2 fun j hj => by simpa using ne_of_mem_of_not_mem hj once.1
  have left : offList i s.table.recency = rest := by rw [oldest, offList, List.filter_cons_of_neg (by simp)]; exact off
  obtain ⟨founded, recency, counted⟩ := foundByArrival_taken (x := x) remote taken evicted
  exact ⟨founded, by simpa [vacate, toTail, left, off] using recency, by simpa [vacate] using counted⟩

/-! ## The founding arrival handed on (R9, R91) -/

theorem deliverSubscribers_none (c : Cls) (b : BufId) (s : State) : deliverSubscribers c ⟨false, false, false⟩ none b s = s := rfl

/-- The state in which a founding arrival has been handed on: GENERAL by its address, any other class to the entry's subscribers, which are none. -/
def foundingHandedOn (l : Line) (k : Key) (b : BufId) (s : State) : State := if k.cls = .general then deliverFromLine l b s else s

theorem takeTagged_new {l : Line} {k : Key} {q : Seq} {b : BufId} {s : State} (new : ∀ j, (s.entry j).key ≠ some k) :
    takeTagged l k q b s = release b (foundingHandedOn l k b (foundByArrival k { seq := q, line := some l, time := s.clock } s)) := by
  rw [takeTagged, findKey_eq_none new, foundingHandedOn]
  cases k.cls <;> simp [deliverSubscribers_none]

theorem foundingHandedOn_only (l : Line) (k : Key) (b : BufId) (s : State) : OnlyChanges (.line l :: deliveryParts) s (foundingHandedOn l k b s) :=
  OnlyChanges.ite _ (fun _ => deliverFromLine_only l b s) (fun _ => OnlyChanges.refl _ s)

theorem foundingHandedOn_spec {l : Line} {k : Key} {b : BufId} {frame : List Byte} {s t : State} (h : Carries 0 b frame s t) :
    Carries 3 b frame s (foundingHandedOn l k b t) ∧ OnlyCauses [.pool, .queueLoss] t (foundingHandedOn l k b t) ∧
      (∀ m, ((foundingHandedOn l k b t).line m).link = (t.line m).link) ∧
      (k.cls = .general → HandedOnFromLine l b frame (t.line l).ctr t (foundingHandedOn l k b t)) ∧
      (k.cls ≠ .general → foundingHandedOn l k b t = t) := by
  unfold foundingHandedOn
  split
  · next general =>
    obtain ⟨carries, causes, links, handed⟩ := deliverFromLine_handsOn h l
    exact ⟨carries, causes, links, fun _ => handed, fun other => absurd general other⟩
  · next other => exact ⟨h.mono (by omega), OnlyCauses.refl _ t, fun _ => rfl, fun general => absurd general other, fun _ => rfl⟩

/-! ## A founding arrival as a whole -/

/-- What a founding arrival on line `l` leaves in `u` of the state `s`, but for the recency list and the table's counters: the frame stored without its
tag in buffer `b`, entry `i` founded, and the frame delivered by its class. -/
def ArrivalDelivered (l : Line) (frame : List Byte) (k : Key) (m : Line) (q : Seq) (i : EntryId) (b : BufId) (s u : State) : Prop :=
  let c : LineCounters := { (s.line l).ctr with
    taggedIn := satInc (s.line l).ctr.taggedIn, crossed := if m = l then (s.line l).ctr.crossed else satInc (s.line l).ctr.crossed }
  exec (.lineFrameCompletion l frame) s = .next (presentAll u) ∧ Takes b (removeTag (frameData frame)) s u ∧
  OnlyChanges (.line l :: .entry i :: .recency :: .tableCtr :: deliveryParts) s u ∧ OnlyCauses [.pool, .queueLoss] s u ∧ PoolTold s u ∧
  u.entry i = arrivalEntry k false s.work.forget { seq := q, line := some l, time := s.clock } ∧
  (k.cls = .general → HandedOnFromLine l b (removeTag (frameData frame)) c s u) ∧
  (k.cls ≠ .general → u.line l = { s.line l with ctr := c } ∧ NoneGiven s u)

/-- From the reception to the founding: what has changed, the line's counts, and the buffer, which is held for the frame. -/
theorem received_founded {l m : Line} {frame : List Byte} {k : Key} {x : Arrival} {i : EntryId} {b : BufId} {s v : State}
    (lowest : s.pool.lowestFree = some b) (founded : Founds k x i (receivedState l m b frame s) v) :
    OnlyChanges (.line l :: .entry i :: .recency :: .tableCtr :: poolParts) s v ∧ OnlyCauses [.pool] s v ∧
      v.line l = (receivedState l m b frame s).line l ∧ v.entry i = arrivalEntry k false s.work.forget x ∧ Carries 0 b frame s v := by
  obtain ⟨only, entry⟩ := founded
  have received := receivedState_only l m b frame s
  have work : (receivedState l m b frame s).work = s.work := received .work (by simp [poolParts, noticeParts])
  exact ⟨received.comp only (by intro p hp; simp at hp ⊢; tauto) (by simp),
    (receivedState_causes l m b frame s).trans (OnlyCauses.of_only only (by simp)), only (.line l) (by simp), work ▸ entry,
    (receivedState_carries frame lowest).keep_only only (by simp) (by simp) (by simp)⟩

/-- A founding arrival, received and founded in `v`, is handed on, its buffer released and its event ended, with the table as `v` has it. -/
theorem arrivalDelivered {l m : Line} {frame : List Byte} {k : Key} {q : Seq} {i : EntryId} {b : BufId} {s v : State} (hear : Listens l s)
    (sound : PoolSound s) (lowest : s.pool.lowestFree = some b) (received : receiveLine l frame s = release b (foundingHandedOn l k b v))
    (founded : Founds k { seq := q, line := some l, time := s.clock } i (receivedState l m b (removeTag (frameData frame)) s) v) :
    ∃ u, ArrivalDelivered l frame k m q i b s u ∧ u.table.recency = v.table.recency ∧ u.table.ctr = v.table.ctr := by
  obtain ⟨before, told, line, entry, carried⟩ := received_founded lowest founded
  obtain ⟨carries, causes, links, general, other⟩ := foundingHandedOn_spec (l := l) (k := k) carried
  have handed := foundingHandedOn_only l k b v
  have ended := receptionEnd_only s b (foundingHandedOn l k b v)
  have counted := line.trans (receivedState_line l m b (removeTag (frameData frame)) s)
  have lineEnd : (receptionEnd s b (foundingHandedOn l k b v)).line l = (foundingHandedOn l k b v).line l :=
    ended (.line l) (by simp [poolParts, noticeParts])
  have after : OnlyChanges (.line l :: deliveryParts) v (receptionEnd s b (foundingHandedOn l k b v)) :=
    handed.trans (ended.mono (fun _ h => List.mem_cons_of_mem _ (poolParts_delivery h)))
  have portsBefore : ∀ p, PortKept p s v := fun p =>
    .of_only before (by simp [poolParts, noticeParts]) (by simp [poolParts, noticeParts]) told (by decide)
  obtain ⟨takes, poolTold⟩ := carries.receptionEnd (by omega) sound
  refine ⟨_, ⟨?runs, takes, ?only, ?causes, poolTold, ?entry, fun cls => ?general, fun cls => ?other⟩, ?recency, ?tableCtr⟩
  case runs =>
    refine lineFrameCompletion_delivers hear received (fun n => (links n).trans ?_) ?_
    · by_cases own : n = l
      · rw [own, counted]
      · exact congrArg LinePort.link (before (.line n) (by simp [poolParts, noticeParts, own]))
    · exact (handed .sup (by simp [deliveryParts, queueParts, poolParts, noticeParts])).trans (before .sup (by simp [poolParts, noticeParts]))
  case only => exact before.comp after (by intro p hp; simp [deliveryParts] at hp ⊢; tauto) (by intro p hp; simp at hp ⊢; tauto)
  case causes => exact ((told.mono (by simp)).trans causes).trans ((receptionEnd_causes s b _).mono (by simp))
  case entry => exact (after (.entry i) (by simp [deliveryParts, queueParts, poolParts, noticeParts])).trans entry
  case general =>
    have handedOn := general cls
    rw [counted] at handedOn
    exact handedOn.between (before .work (by simp [poolParts, noticeParts])) counted portsBefore (receptionEnd_port s b _) lineEnd
  case other =>
    rw [lineEnd, other cls]
    exact ⟨counted, fun p => (portsBefore p).trans (receptionEnd_port s b v p)⟩
  case recency => exact after .recency (by simp [deliveryParts, queueParts, poolParts, noticeParts])
  case tableCtr => exact after .tableCtr (by simp [deliveryParts, queueParts, poolParts, noticeParts])

/-- Settles O26: the frame is stored in the lowest free buffer, its entry is founded in the lowest VACANT place or in that of the evicted recency head, and
it is delivered from there. -/
theorem arrivalFounds : Obligations.ArrivalFounds := by
  unfold Obligations.ArrivalFounds
  intro l frame s k m q i hear tag remote grants sound new c founded
  obtain ⟨b, lowest⟩ := lowestFree_of_sound sound (by rcases grants with h | ⟨-, h⟩ <;> omega)
  obtain ⟨t, stored⟩ : ∃ t, t = receivedState l m b (removeTag (frameData frame)) s := ⟨_, rfl⟩
  have only : OnlyChanges (.line l :: poolParts) s t := stored ▸ receivedState_only l m b _ s
  have entries : ∀ j, t.entry j = s.entry j := fun j => only (.entry j) (by simp [poolParts, noticeParts])
  have recency : t.table.recency = s.table.recency := only .recency (by simp [poolParts, noticeParts])
  have counters : t.table.ctr = s.table.ctr := only .tableCtr (by simp [poolParts, noticeParts])
  have clock : t.clock = s.clock := only .clock (by simp [poolParts, noticeParts])
  have work : t.work = s.work := only .work (by simp [poolParts, noticeParts])
  have afar : isLocalOrigin t k.origin = false := by
    rw [← Bool.not_eq_true, isLocalOrigin_iff, work]
    exact fun ⟨_, p, own⟩ => remote p own
  have received : receiveLine l frame s =
      release b (foundingHandedOn l k b (foundByArrival k { seq := q, line := some l, time := s.clock } t)) := by
    rw [receiveLine_remote tag remote, receiveRemote_granted grants lowest, ← stored, takeTagged_new (by simpa only [entries] using new), clock]
  refine ⟨fun vacant below => ?vacant, fun rest table full oldest => ?full⟩
  case vacant =>
    obtain ⟨founds, joins, counts⟩ := foundByArrival_vacant (x := { seq := q, line := some l, time := s.clock }) afar
      (by rw [entries]; exact vacant) (by simpa only [entries] using below)
    obtain ⟨u, delivered, sameList, sameCtr⟩ := arrivalDelivered hear sound lowest received (by rw [← stored]; exact founds)
    exact ⟨u, b, delivered, by rw [sameList, joins, recency], by rw [sameCtr, counts, counters]⟩
  case full =>
    obtain ⟨-, -, -, once, -⟩ := table
    obtain ⟨founds, joins, counts⟩ := foundByArrival_full (x := { seq := q, line := some l, time := s.clock }) afar
      (by simpa only [entries] using full) (recency.trans oldest) (by rw [recency]; exact once)
    obtain ⟨u, delivered, sameList, sameCtr⟩ := arrivalDelivered hear sound lowest received (by rw [← stored]; exact founds)
    exact ⟨u, b, delivered, by rw [sameList, joins], by rw [sameCtr, counts, counters]⟩

end Sys2Proof
end

section
/-! SUPPORT. A duplicate at a LIVE entry (R44, R46, R48): the class of such an arrival, what the pending pair makes of it on each line (R59, R60), and
the skew that is recorded (R61); then the statement of the duplicates. -/

namespace Sys2Proof

open Sys2Proof.Machine

/-! ## The class of a duplicate (R44) -/

theorem classify_eq_duplicateOfHigh {r : SeqRecord} {x : Seq} (high : x = r.high) : classify r x = .duplicateOfHigh := by
  have zero : forwardDiff r.high x = 0 := by simp [forwardDiff, high]
  exact if_pos zero

theorem classify_eq_duplicate {r : SeqRecord} {x : Seq} (behind : 32768 ≤ forwardDiff r.high x) (near : backDist r.high x ≤ 63)
    (held : InWindow r x) : classify r x = .duplicate := by
  calc classify r x
      = if backDist r.high x ≤ Config.windowReach then if backDist r.high x ∈ r.window then .duplicate else .outOfOrder else .stale := by
        rw [classify, if_neg (by omega), if_neg (by omega)]
    _ = .duplicate := by rw [if_pos near]; exact if_pos held

/-- An arrival of either duplicate class is discarded as one (R46, R48). -/
theorem judge_duplicate {e : Entry} {r : SeqRecord} {x : Arrival} (live : e.state = .live) (record : e.record = some r)
    (cls : classify r x.seq = .duplicateOfHigh ∨ classify r x.seq = .duplicate) : e.judge x = (e.takeDuplicate x, .discarded) := by
  unfold Entry.judge
  rw [live, record]
  rcases cls with h | h <;> simp only [h]

/-! ## The recorded skew (R60, R61) -/

theorem natAbs_skewOf (l : Line) (t t0 : Time) : (skewOf l t t0).natAbs = min (elapsed t t0) 65535 := by
  cases l <;> simp only [skewOf] <;> omega

theorem skewOf_b_nonneg (t t0 : Time) : 0 ≤ skewOf .b t t0 := by simp only [skewOf]; omega

theorem skewOf_a_nonpos (t t0 : Time) : skewOf .a t t0 ≤ 0 := by simp only [skewOf]; omega

/-- The max skew gives way to a skew of greater magnitude alone, and to any where none stands (R61). -/
theorem recordSkew_eq (e : Entry) (d : Int) : e.recordSkew d =
    { e with lastSkew := some d, maxSkew := if ∀ m, e.maxSkew = some m → m.natAbs < d.natAbs then some d else e.maxSkew } := by
  unfold Entry.recordSkew
  cases e.maxSkew <;> simp

/-! ## The match with the pending pair (R59, R60) -/

theorem matchPair_echo {e : Entry} {x : Arrival} {q : PendingPair} {l : Line} (line : x.line = some l) (pair : e.pair = some q)
    (seq : q.seq = x.seq) (own : q.line = l) : e.matchPair x = { e with ctr := { e.ctr with echoes := satInc e.ctr.echoes } } := by
  unfold Entry.matchPair
  rw [line, pair]
  simp only [seq, own, if_true]

theorem matchPair_skew {e : Entry} {x : Arrival} {q : PendingPair} {l : Line} (line : x.line = some l) (pair : e.pair = some q)
    (seq : q.seq = x.seq) (other : q.line ≠ l) {d : Int} (skew : skewOf l x.time q.time = d) :
    e.matchPair x = { e with
      pair := none, lastSkew := some d, maxSkew := if ∀ m, e.maxSkew = some m → m.natAbs < d.natAbs then some d else e.maxSkew } := by
  unfold Entry.matchPair
  rw [line, pair]
  simp only [seq, other, if_true, if_false, skew, recordSkew_eq]

theorem matchPair_unmatched {e : Entry} {x : Arrival} (unmatched : x.line = none ∨ ∀ q, e.pair = some q → q.seq ≠ x.seq) : e.matchPair x = e := by
  unfold Entry.matchPair
  split
  next l q line pair =>
    rcases unmatched with h | h
    · rw [h] at line; cases line
    · rw [if_neg (h q pair)]
  next => rfl

/-- Settles O20: either way the arrival is a duplicate by its class, and what the pending pair makes of it is an echo, a skew or nothing. -/
theorem duplicatesDiscarded : Obligations.DuplicatesDiscarded := by
  unfold Obligations.DuplicatesDiscarded
  intro e r x live record duplicate
  have cls : classify r x.seq = .duplicateOfHigh ∨ classify r x.seq = .duplicate := by
    rcases duplicate with high | ⟨behind, near, held⟩
    · exact .inl (classify_eq_duplicateOfHigh high)
    · exact .inr (classify_eq_duplicate behind near held)
  rw [judge_duplicate live record cls]
  refine ⟨rfl, fun l q line pair seq own => ?echo, fun l q line pair seq other => ?skew, fun unmatched => ?unmatched⟩
  case echo => exact matchPair_echo line pair seq own
  case skew =>
    refine ⟨skewOf l x.time q.time, natAbs_skewOf _ _ _, ?_, ?_, ?_⟩
    · rintro rfl; exact skewOf_b_nonneg _ _
    · rintro rfl; exact skewOf_a_nonpos _ _
    · exact matchPair_skew (e := { e with ctr := { e.ctr with duplicate := satInc e.ctr.duplicate } }) line pair seq other rfl
  case unmatched => exact matchPair_unmatched unmatched

end Sys2Proof
end

section
/-! SUPPORT. A channel command from the owner (R130): what it is judged on, how its REPLY says the channel, and how its event ends, where the pool stays as it
is and where POOL may be raised (R87). -/

namespace Sys2Proof

open Sys2Proof.Machine

/-! ## The channel number, the REPLY's body and the template (R130, R131, R168) -/

theorem chanVal_mod_256 (c : ChanId) : c.val % 256 = c.val := Nat.mod_eq_of_lt (c.isLt.trans (by decide))

theorem chanBody_eq (c : ChanId) (sched : Option Schedule) (s : State) :
    chanBody (BitVec.ofNat 8 c.val) sched s = chanReply c sched (s.chan c) := by
  simp [chanBody, chanReply, chanVal_mod_256]

/-- A channel command from the owner is judged by its act alone, and its REPLY carries the channel as the act leaves it. -/
theorem chanCommand_owner {p : Port} {c : ChanId} {act : ChanId → RepOutcome × Option Schedule × State} {s t : State} {o : RepOutcome}
    {sched : Option Schedule} (owner : s.work.owner.get c = some p) (acts : act c = (o, sched, t)) :
    (chanCommand p (BitVec.ofNat 8 c.val) act s).reaction = (some (o, chanReply c sched (t.chan c)), t) := by
  simp [chanCommand, Answer.reaction, owner, acts, chanBody_eq, chanVal_mod_256]

theorem templateOf_eq {template : List Byte} {len : Word16} {data : List Byte} (h : TemplateIs template len data) :
    templateOf len data = some template := by
  obtain ⟨short, within, rfl⟩ := h
  exact if_neg (by omega)

/-- A template command from the owner whose template is well formed. -/
theorem templateCommand_owner {p : Port} {cmd : Command} {c : ChanId} {template : List Byte} {len : Word16} {data : List Byte}
    {act : ChanId → List Byte → RepOutcome × Option Schedule × State} {s t : State} {o : RepOutcome} {sched : Option Schedule}
    (owner : s.work.owner.get c = some p) (is : TemplateIs template len data) (acts : act c template = (o, sched, t)) :
    templateCommand p cmd (BitVec.ofNat 8 c.val) len data act s = (some (o, chanReply c sched (t.chan c)), t) := by
  rw [templateCommand, templateOf_eq is]
  exact chanCommand_owner (act := fun ch => act ch template) owner acts

/-! ## The state in which the command runs -/

@[simp] theorem attendedState_pool (p : Port) (src : Addr) (s : State) : (attendedState p src s).pool = s.pool := rfl
@[simp] theorem attendedState_notice (p : Port) (src : Addr) (s : State) (q : Port) : (attendedState p src s).notice q = s.notice q := rfl

theorem attendedState_present (p : Port) (src : Addr) (s : State) (q : Port) :
    ((attendedState p src s).port q).present = (s.port q).present := by
  by_cases own : q = p
  · rw [own, attendedState_port]; rfl
  · rw [attendedState_port_other p q src s own]

/-- POOL follows the pool state from the state before the control frame was taken as from the one after. -/
theorem PoolFollows.of_attended {n : Nat} {p : Port} {src : Addr} {s t : State} (h : PoolFollows n (attendedState p src s) t) :
    PoolFollows n s t where
  present q := (h.present q).trans (attendedState_present p src s q)
  told q := by simpa only [attendedState_present, attendedState_pool, attendedState_notice] using h.told q
  fallen := h.fallen
  risen := h.risen

/-! ## How the event ends -/

section
variable {p : Port} {src : Addr} {token : BitVec 32} {cmd : Command} {s t : State} {o : RepOutcome} {body : ReplyBody}

/-- A command that touches neither a count nor its own port, and raises no POOL, is answered, and its effects stand but for the port's queues. -/
theorem command_answered {ps : List Part} {cs : List Cause} (present : Commands p s)
    (run : runCommand p cmd (attendedState p src s) = (some (o, body), t)) (only : OnlyChanges ps (attendedState p src s) t)
    (lines : ∀ l, Part.line l ∉ ps) (sup : Part.sup ∉ ps) (port : Part.port p ∉ ps) (queues : Part.queues p ∉ ps)
    (causes : OnlyCauses cs (attendedState p src s) t) (quiet : Cause.pool ∉ cs) :
    ∃ u, commandEvent p src token cmd s = .next (presentAll u) ∧ OnlyChanges (.port p :: .queues p :: ps) s u ∧ OnlyChanges [.queues p] t u ∧
      Answered p src token cmd.code o body s u := by
  have outcome : (runCommand p cmd (attendedState p src s)).1 = some (o, body) := by rw [run]
  have after : (runCommand p cmd (attendedState p src s)).2 = t := by rw [run]
  obtain ⟨u, ends, answered, rfl, frame⟩ := commandEvent_answered p src token cmd s present o body ps outcome
    (by rw [after, only.port port queues, attendedState_port]) (after ▸ only) lines sup
    (fun q => by rw [after]; exact congrArg CauseRecord.subject ((causes q).2 .pool quiet))
  exact ⟨_, ends, frame, after ▸ joinReply_only p src token cmd.code o body t, answered⟩

/-- A command that changes nothing but what its attendance has changed. -/
theorem command_refused (present : Commands p s)
    (run : runCommand p cmd (attendedState p src s) = (some (o, body), attendedState p src s)) :
    ∃ u, commandEvent p src token cmd s = .next (presentAll u) ∧ OnlyChanges [.port p, .queues p] s u ∧
      Answered p src token cmd.code o body s u := by
  obtain ⟨u, ends, frame, -, answered⟩ := command_answered (ps := []) (cs := []) present run (OnlyChanges.refl _ _) (by simp) (by simp) (by simp)
    (by simp) (OnlyCauses.refl _ _) (by simp)
  exact ⟨u, ends, frame, answered⟩

/-- A command whose run changes one channel alone, which its REPLY carries as it then is. -/
theorem command_modChan {c : ChanId} {f : Channel → Channel} (present : Commands p s)
    (run : runCommand p cmd (attendedState p src s) =
      (some (o, chanReply c none ((modChan c f (attendedState p src s)).chan c)), modChan c f (attendedState p src s))) :
    ∃ u, commandEvent p src token cmd s = .next (presentAll u) ∧ OnlyChanges [.chan c, .port p, .queues p] s u ∧ u.chan c = f (s.chan c) ∧
      Answered p src token cmd.code o (chanReply c none (u.chan c)) s u := by
  have only := modChan_only c f (attendedState p src s)
  obtain ⟨u, ends, frame, kept, answered⟩ := command_answered (token := token) (cs := []) present run only (by simp) (by simp) (by simp) (by simp)
    (OnlyCauses.of_only only (by simp)) (by simp)
  have channel := kept (.chan c) (by simp)
  exact ⟨u, ends, frame.mono (by simp), channel.trans (modChan_chan c f _), channel ▸ answered⟩

/-- A command that changes a channel and the pool is answered, POOL is told with the free count, and its other effects stand but for the port's queues. -/
theorem command_told {c : ChanId} {cs : List Cause} (present : Commands p s)
    (run : runCommand p cmd (attendedState p src s) = (some (o, body), t)) (only : OnlyChanges (.chan c :: poolParts) (attendedState p src s) t)
    (causes : OnlyCauses cs (attendedState p src s) t) (pool : Cause.pool ∈ cs) :
    ∃ u, commandEvent p src token cmd s = .next (presentAll u) ∧ OnlyChanges (.chan c :: .port p :: .queues p :: poolParts) s u ∧
      OnlyChanges (.queues p :: noticeParts) t u ∧ OnlyCauses cs s u ∧ OnlyCauses [.pool] t u ∧
      (∀ n, PoolFollows n s t → PoolSound s → PoolTold s u) ∧ Answered p src token cmd.code o body s u := by
  have joined := joinReply_only p src token cmd.code o body t
  have replyCauses : OnlyCauses [] t (joinReply p src token cmd.code o body t) := OnlyCauses.of_only joined (by simp)
  have told : OnlyChanges (.queues p :: noticeParts) t (tellPool s (joinReply p src token cmd.code o body t)) :=
    joined.comp (tellPool_only s _) (by simp) (by simp)
  have toldCauses : OnlyCauses [.pool] t (tellPool s (joinReply p src token cmd.code o body t)) :=
    (replyCauses.mono (by simp)).trans (tellPool_causes s _)
  have frame : OnlyChanges (.chan c :: .port p :: .queues p :: poolParts) s (tellPool s (joinReply p src token cmd.code o body t)) :=
    ((attendedState_only p src s).mono (by simp)).trans
      (only.comp told (by intro q hq; simp at hq ⊢; tauto) (by intro q hq; simp [poolParts] at hq ⊢; tauto))
  have same : judgeVerdicts s (tellPool s (joinReply p src token cmd.code o body t)) = tellPool s (joinReply p src token cmd.code o body t) :=
    judgeVerdicts_of_only frame (by simp [poolParts, noticeParts]) (by simp [poolParts, noticeParts])
  refine ⟨_, ?ends, frame, told, ?causes, toldCauses, fun n follows sound => ?pool, ?answered⟩
  case ends => rw [commandEvent_present p src token cmd s present, run, same]
  case causes => exact OnlyCauses.trans causes (toldCauses.mono (by simpa using pool))
  case pool =>
    have kept : PoolFollows n s (joinReply p src token cmd.code o body t) :=
      follows.step 0 (by rw [joined .pool (by simp)]) (by rw [joined .pool (by simp)]) (by rw [joined .pool (by simp)]; omega)
        (fun q => joined.present (by simp)) replyCauses (by simp)
    exact kept.told_after sound
  case answered =>
    have port : t.port p = attended p src s := by
      rw [only.port (by simp [poolParts, noticeParts]) (by simp [poolParts, noticeParts]), attendedState_port]
    have lane := joinLane_port p (replyFrame p src token cmd.code o body t) t (by rw [port]; exact present.1.1)
    have portEnd := (tellPool_only s (joinReply p src token cmd.code o body t)).port (p := p) (by simp [noticeParts]) (by simp [noticeParts])
    have work : (tellPool s (joinReply p src token cmd.code o body t)).work = t.work := told .work (by simp [noticeParts])
    rw [port] at lane
    rw [Answered, portEnd, replyFrame, work]
    exact lane

end

end Sys2Proof
end

section
/-! SUPPORT. START (R141, R142, R144): FAILED set and reported at the owner, the start check in its order, and what a passed check leaves of FAILED; then the
statement of the start check. -/

namespace Sys2Proof

open Sys2Proof.Machine

/-! ## FAILED set and reported at the owner (R144) -/

theorem failChan_owner {c : ChanId} {cause : ChanCause} {p : Port} {s : State} (owner : s.work.owner.get c = some p) :
    failChan c cause s = raiseAt .channel (.channel c (some cause)) p (modChan c (fun x => { x with failed := some cause }) s) := by
  rw [failChan, raiseOwner, work_congr (modChan_settings c _ s), owner]

/-- All that a failure does at a channel with an owner. -/
theorem failChan_spec {c : ChanId} {cause : ChanCause} {p : Port} {s : State} (owner : s.work.owner.get c = some p) :
    OnlyChanges [.chan c, .notice p] s (failChan c cause s) ∧ (failChan c cause s).chan c = { s.chan c with failed := some cause } ∧
      OnlyCauses [.channel] s (failChan c cause s) ∧ RaisedAt .channel (.channel c (some cause)) p s (failChan c cause s) := by
  rw [failChan_owner owner]
  refine ⟨(modChan_only c _ s).comp (raiseAt_only _ _ p _) (by simp) (by simp), ?_, raiseAt_causes _ _ p _, raiseAt_raises _ _ p _⟩
  exact (raiseAt_only _ _ p _ (.chan c) (by simp)).trans (modChan_chan c _ s)

/-! ## START by state, flags and start check (R141, R142) -/

theorem startChan_empty {c : ChanId} {s : State} (empty : (s.chan c).state = .empty) :
    startChan c s = (.done, none, failChan c .noTemplate s) := by
  simp only [startChan, empty]

theorem startChan_uncleared {c : ChanId} {s : State} (ready : (s.chan c).state = .ready)
    (flagged : (s.chan c).finished = true ∨ (s.chan c).failed ≠ none) : startChan c s = (.done, none, failChan c .uncleared s) := by
  simp only [startChan, ready, Option.isSome_iff_ne_none, if_pos flagged]

/-- A READY channel with both flags clear, which START puts to its check. -/
def Machine.Channel.Startable (x : Channel) : Prop := x.state = .ready ∧ x.finished = false ∧ x.failed = none

theorem startChan_failed {c : ChanId} {s : State} {cause : ChanCause} (clear : (s.chan c).Startable) (fails : startCheck c s = some cause) :
    startChan c s = (.done, none, failChan c cause s) := by
  obtain ⟨ready, finished, failed⟩ := clear
  simp [startChan, ready, finished, failed, fails]

theorem startChan_passed {c : ChanId} {s : State} (clear : (s.chan c).Startable) (passes : startCheck c s = none) :
    startChan c s = (.done, none, startRun c s) := by
  obtain ⟨ready, finished, failed⟩ := clear
  simp [startChan, ready, finished, failed, passes]

theorem startChan_running {c : ChanId} {s : State} (running : (s.chan c).state = .armed ∨ (s.chan c).state = .sending ∨ (s.chan c).state = .stopping) :
    startChan c s = (.state, none, s) := by
  rcases running with h | h | h <;> simp only [startChan, h]

theorem isTripType_iff (s : State) (template : List Byte) : isTripType s template = true ↔ frameType template ∈ s.work.tripSet := by
  simp [isTripType]

/-- The start check at a channel with a template: its schedule before its type (R141). -/
theorem startCheck_eq {c : ChanId} {s : State} {t : Template} (current : (s.chan c).cur = some t) :
    startCheck c s = if t.sched.tmax < t.sched.tmin then some .badSchedule
      else if frameType (s.frameOf t.buf) ∈ s.work.tripSet then none else some .noTemplate := by
  simp only [startCheck, current, ← isTripType_iff]
  cases isTripType s (s.frameOf t.buf) <;> rfl

/-- A passed check arms an input channel whose line does not begin its burst at once (R142, R153). -/
theorem startRun_arms {c : ChanId} {n : InputId} {s : State}
    (waits : s.work.trigger.get c = .edge n ∨ (s.work.trigger.get c = .level n ∧ (s.input n).filtered = false)) :
    startRun c s = modChan c (fun x => { x with state := .armed }) s := by
  rcases waits with edge | ⟨level, low⟩
  · simp only [startRun, edge]
  · have still : ((modChan c (fun x => { x with state := .armed }) s).input n).filtered = false := low
    simp [startRun, level, low]

/-! ## What a burst leaves of FAILED (R136 to R138, R140) -/

/-- FAILED of a channel, with its cause, is the same in two states. -/
def SameFailed (c : ChanId) (s t : State) : Prop := (t.chan c).failed = (s.chan c).failed

theorem SameFailed.refl (c : ChanId) (s : State) : SameFailed c s s := rfl

theorem SameFailed.trans {c : ChanId} {s t u : State} (h : SameFailed c s t) (k : SameFailed c t u) : SameFailed c s u := Eq.trans k h

theorem SameFailed.of_only {c : ChanId} {ps : List Part} {s t : State} (h : OnlyChanges ps s t) (away : Part.chan c ∉ ps) : SameFailed c s t :=
  congrArg Channel.failed (h (.chan c) away)

theorem modChan_failed (c : ChanId) {f : Channel → Channel} (kept : ∀ x, (f x).failed = x.failed) (s : State) : SameFailed c s (modChan c f s) := by
  rw [SameFailed, modChan_chan, kept]

theorem chan_notMem_send (c : ChanId) : Part.chan c ∉ sendParts := by
  simp [sendParts, streamParts, tableParts, entryParts, deliveryParts, queueParts, poolParts, noticeParts]

theorem chanSend_failed (c : ChanId) (s : State) : SameFailed c s (chanSend c s) := by
  unfold chanSend
  split
  · refine SameFailed.trans ?_ (modChan_failed c (by simp) _)
    split
    · exact .of_only (originateUntagged_only _ _ _ s) (chan_notMem_send c)
    · exact .of_only (originateTagged_only _ _ _ s) (chan_notMem_send c)
  · exact .refl c s

theorem firstSend_failed (c : ChanId) (s : State) : SameFailed c s (firstSend c s) := (modChan_failed c (by simp) s).trans (chanSend_failed c _)

theorem setSendTime_failed (c : ChanId) (at_ : Time) (s : State) : SameFailed c s (setSendTime c at_ s) :=
  modChan_failed c (fun x => by split <;> rfl) s

theorem finishBurst_failed (c : ChanId) (s : State) : SameFailed c s (finishBurst c s) := by
  unfold finishBurst
  split
  · exact (modChan_failed c (by simp) s).trans (.of_only (raiseOwner_only c none _) (by simp [noticeParts]))
  · exact modChan_failed c (by simp) s

theorem afterLastTemplate_failed (c : ChanId) (at_ : Time) (s : State) : SameFailed c s (afterLastTemplate c at_ s) := by
  unfold afterLastTemplate
  split
  · exact finishBurst_failed c s
  · exact setSendTime_failed c at_ s

theorem endBurst_failed (c : ChanId) (s : State) : SameFailed c s (endBurst c s) := by
  unfold endBurst
  split
  · next t _ =>
    have chained := modChan_failed c (f := fun x => { x with cur := some t, nxt := none, chained := satInc x.chained }) (by simp) s
    split
    · exact ((chained.trans (.of_only (release_only _ _) (by simp [poolParts, noticeParts]))).trans (firstSend_failed c _)).trans
        (afterLastTemplate_failed c _ _)
    · exact (chained.trans (firstSend_failed c _)).trans (afterLastTemplate_failed c _ _)
  · exact finishBurst_failed c s

theorem afterSend_failed (c : ChanId) (at_ : Time) (s : State) : SameFailed c s (afterSend c at_ s) := by
  unfold afterSend
  split
  · exact endBurst_failed c s
  · exact setSendTime_failed c at_ s

theorem beginBurst_failed (c : ChanId) (s : State) : SameFailed c s (beginBurst c s) := (firstSend_failed c s).trans (afterSend_failed c _ _)

theorem startRun_failed (c : ChanId) (s : State) : SameFailed c s (startRun c s) := by
  have armed := modChan_failed c (f := fun x => { x with state := .armed }) (by simp) s
  unfold startRun
  split
  · exact beginBurst_failed c s
  · exact armed
  · dsimp only
    split
    · exact armed.trans (beginBurst_failed c _)
    · exact armed

theorem eventEnd_failed (c : ChanId) (s t : State) : SameFailed c t (presentAll (judgeVerdicts s (tellPool s t))) :=
  ((SameFailed.of_only (tellPool_only s t) (by simp [noticeParts])).trans (.of_only (judgeVerdicts_only s _) (by simp [noticeParts]))).trans
    (.of_only (presentAll_only _) (by simp [noticeParts, queueParts]))

/-! ## The event of a START -/

section
variable {p : Port} {src : Addr} {token : BitVec 32} {c : ChanId} {s t : State} {o : RepOutcome}

theorem runCommand_start (owner : s.work.owner.get c = some p) (acts : startChan c (attendedState p src s) = (o, none, t)) :
    runCommand p (.start (BitVec.ofNat 8 c.val)) (attendedState p src s) = (some (o, chanReply c none (t.chan c)), t) :=
  chanCommand_owner (act := fun ch => startChan ch (attendedState p src s)) owner acts

/-- A START that fails is answered DONE, sets FAILED with its cause and nothing else of the channel, and raises CHANNEL at the owner alone. -/
theorem start_fails {cause : ChanCause} (present : Commands p s) (owner : s.work.owner.get c = some p)
    (fails : startChan c (attendedState p src s) = (.done, none, failChan c cause (attendedState p src s))) :
    ∃ u, exec (.start p src token (BitVec.ofNat 8 c.val)) s = .next (presentAll u) ∧ OnlyChanges [.chan c, .port p, .queues p, .notice p] s u ∧
      u.chan c = { s.chan c with failed := some cause } ∧ RaisedAt .channel (.channel c (some cause)) p s u ∧
      Answered p src token 0x07#8 .done (chanReply c none (u.chan c)) s u := by
  obtain ⟨only, failed, causes, raised⟩ := failChan_spec (cause := cause) (s := attendedState p src s) owner
  obtain ⟨u, ends, frame, kept, answered⟩ := command_answered (token := token) present (runCommand_start owner fails) only (by simp) (by simp)
    (by simp) (by simp) causes (by decide)
  have channel : u.chan c = (failChan c cause (attendedState p src s)).chan c := kept (.chan c) (by simp)
  have notice : u.notice p = (failChan c cause (attendedState p src s)).notice p := kept (.notice p) (by simp)
  refine ⟨u, ends, frame.mono (by simp), channel.trans failed, ?_, channel ▸ answered⟩
  rw [RaisedAt, notice]
  exact raised

/-- Whatever a START that passes its check sets going, the step leaves FAILED as the start found it. -/
theorem start_keepsFailed (present : Commands p s) (owner : s.work.owner.get c = some p)
    (runs : startChan c (attendedState p src s) = (.done, none, startRun c (attendedState p src s))) :
    ∃ v, exec (.start p src token (BitVec.ofNat 8 c.val)) s = .next v ∧ SameFailed c s v := by
  refine ⟨_, commandEvent_present p src token _ s present, ?_⟩
  rw [runCommand_start owner runs]
  have started : SameFailed c s (startRun c (attendedState p src s)) := startRun_failed c (attendedState p src s)
  exact (started.trans (.of_only (joinReply_only _ _ _ _ _ _ _) (by simp))).trans (eventEnd_failed c s _)

end

/-- Settles O46: START by the channel's state and flags, then by the start check in its order, and by the trigger where the check passes. -/
theorem startChecked : Obligations.StartChecked := by
  unfold Obligations.StartChecked
  intro p src token c s present owner i x fails clear passes
  have checked : ∀ t, x.cur = some t → startCheck c (attendedState p src s) = if t.sched.tmax < t.sched.tmin then some .badSchedule
      else if frameType (s.frameOf t.buf) ∈ s.work.tripSet then none else some .noTemplate :=
    fun t current => startCheck_eq (s := attendedState p src s) current
  have passed : ∀ t, clear → passes t →
      startChan c (attendedState p src s) = (.done, none, startRun c (attendedState p src s)) := by
    rintro t ready ⟨current, schedule, type⟩
    exact startChan_passed ready (by rw [checked t current, if_neg (by omega), if_pos type])
  refine ⟨fun empty => ?empty, fun ready flagged => ?uncleared, fun t ready current bad => ?badSchedule, fun t ready current schedule other => ?noTemplate,
    fun t n ready pass waits => ?arms, fun t ready pass => ?keeps, fun running => ?running⟩
  case empty => exact start_fails present owner (startChan_empty empty)
  case uncleared => exact start_fails present owner (startChan_uncleared ready flagged)
  case badSchedule => exact start_fails present owner (startChan_failed ready (by rw [checked t current, if_pos bad]))
  case noTemplate => exact start_fails present owner (startChan_failed ready (by rw [checked t current, if_neg (by omega), if_neg other]))
  case arms =>
    have arms := congrArg (fun t => (RepOutcome.done, (none : Option Schedule), t)) (startRun_arms (s := attendedState p src s) waits)
    exact command_modChan present (runCommand_start owner ((passed t ready pass).trans arms))
  case keeps =>
    obtain ⟨v, ends, same⟩ := start_keepsFailed (token := token) present owner (passed t ready pass)
    obtain ⟨-, -, failed⟩ := ready
    exact ⟨v, ends, Eq.trans same failed⟩
  case running => exact command_refused present (runCommand_start owner (startChan_running running))

end Sys2Proof
end

section
/-! SUPPORT. What a template slot gives up (R86, R134, R143): a release by its figures, the return to READY, and the commands STOP and CLEAR; then the
statement of the two. -/

namespace Sys2Proof

open Sys2Proof.Machine

/-! ## A release by its figures (R83, R87) -/

@[simp] theorem judgePool_free (s : State) : (judgePool s).pool.free = s.pool.free := by obtain ⟨_, h⟩ := judgePool_pool s; rw [h]

/-- The pool is LOW once 32 buffers or fewer are free, and stays LOW up to 64 (R87). -/
theorem judgePool_low_iff (s : State) :
    (judgePool s).pool.low = true ↔ s.pool.free ≤ 32 ∨ (s.pool.low = true ∧ s.pool.free ≤ 64) := by
  have raised : ∀ low, (raisePresent .pool (.pool low none) { s with pool := { s.pool with low := low } }).pool.low = low := fun low =>
    congrArg Pool.low (raisePresent_only .pool (.pool low none) { s with pool := { s.pool with low := low } } .pool (by simp [noticeParts]))
  unfold judgePool
  split
  · next falls =>
    obtain ⟨-, scarce⟩ : s.pool.low = false ∧ s.pool.free ≤ 32 := by simpa using falls
    simp [raised, scarce]
  · next stays =>
    split
    · next rises =>
      obtain ⟨-, plenty⟩ : s.pool.low = true ∧ 65 ≤ s.pool.free := by simpa using rises
      simp only [raised]
      constructor
      · simp
      · rintro (few | ⟨-, few⟩) <;> omega
    · next between =>
      have ample : s.pool.low = false → 32 < s.pool.free := by simpa using stays
      have low : s.pool.low = true → s.pool.free < 65 := by simpa using between
      cases was : s.pool.low
      · have := ample was; simp; omega
      · have := low was; simp; omega

theorem Machine.Pool.released_count (q : Pool) (b : BufId) : ((q.released b).bufs.get b).count = (q.bufs.get b).count - 1 := by
  unfold Pool.released
  dsimp only
  split
  · omega
  · split
    · next last => simp [last]
    · simp

theorem Machine.Pool.released_free (q : Pool) (b : BufId) :
    (q.released b).free = q.free + if (q.bufs.get b).count = 1 then 1 else 0 := by
  unfold Pool.released
  dsimp only
  split
  · next free => simp [free]
  · split <;> simp_all

/-! ## What a template slot gives up -/

theorem dropTemplate_causes (old : Option Template) (s : State) : OnlyCauses [.pool] s (dropTemplate old s) := by
  cases old with
  | none => exact OnlyCauses.refl _ s
  | some t => exact release_causes t.buf s

@[simp] theorem dropTemplate_chan (old : Option Template) (s : State) (c : ChanId) : (dropTemplate old s).chan c = s.chan c :=
  dropTemplate_only old s (.chan c) (by simp [poolParts, noticeParts])

theorem dropTemplate_count {old : Option Template} {t : Template} (held : old = some t) (s : State) :
    ((dropTemplate old s).pool.bufs.get t.buf).count = (s.pool.bufs.get t.buf).count - 1 := by
  simp [held, dropTemplate, release, Pool.released_count]

theorem PoolFollows.dropTemplate {n : Nat} {s t : State} (h : PoolFollows n s t) (few : n < 32) (old : Option Template) :
    PoolFollows (n + 1) s (dropTemplate old t) := by
  cases old with
  | none => exact h.mono (by omega)
  | some x => exact h.release few x.buf

/-- A channel's change, and a failure of the channel, leave the pool and POOL alone. -/
theorem PoolFollows.modChan {n : Nat} {s t : State} (h : PoolFollows n s t) (c : ChanId) (f : Channel → Channel) :
    PoolFollows n s (modChan c f t) :=
  h.step 0 rfl (Nat.le_refl _) (Nat.le_refl _) (fun _ => rfl) (OnlyCauses.refl [] _) (by simp)

theorem PoolFollows.failChan {n : Nat} {s t : State} {c : ChanId} {cause : ChanCause} {p : Port} (h : PoolFollows n s t)
    (owner : t.work.owner.get c = some p) : PoolFollows n s (failChan c cause t) := by
  obtain ⟨only, -, causes, -⟩ := failChan_spec (cause := cause) owner
  have pool : (Machine.failChan c cause t).pool = t.pool := only .pool (by simp)
  exact h.step 0 (by rw [pool]) (by rw [pool]) (by rw [pool]; omega) (fun q => only.present (by simp)) causes (by decide)

/-! ## The return to READY (R134, R143) -/

theorem modChan_modChan (c : ChanId) (f g : Channel → Channel) (s : State) :
    modChan c g (modChan c f s) = modChan c (fun x => g (f x)) s := by
  simp [modChan, updAt, Vector.get_eq_getElem]

theorem modChan_congr {c : ChanId} {f g : Channel → Channel} {s : State} (same : f (s.chan c) = g (s.chan c)) :
    modChan c f s = modChan c g s := by
  simp only [State.chan] at same
  simp only [modChan, updAt, same]

theorem toReady_eq (c : ChanId) (s : State) : toReady c s =
    dropTemplate (s.chan c).nxt (modChan c (fun x => { x with state := .ready, sendTime := none, nxt := none }) s) := by
  rw [toReady, dropNext, modChan_chan]
  cases next : (s.chan c).nxt with
  | none => exact modChan_congr (by rw [← next])
  | some t => simp only [modChan_modChan, dropTemplate]

/-! ## STOP and CLEAR by state (R135, R143) -/

theorem stopChan_sending {c : ChanId} {s : State} (sending : (s.chan c).state = .sending) :
    stopChan c s = (.done, none, modChan c (fun x => { x with state := .stopping }) s) := by
  simp only [stopChan, sending]

theorem stopChan_armed {c : ChanId} {s : State} (armed : (s.chan c).state = .armed) :
    stopChan c s = (.done, none, failChan c .stopped (toReady c s)) := by
  simp only [stopChan, armed]

theorem stopChan_idle {c : ChanId} {s : State} (idle : (s.chan c).state = .empty ∨ (s.chan c).state = .ready ∨ (s.chan c).state = .stopping) :
    stopChan c s = (.state, none, s) := by
  rcases idle with h | h | h <;> simp only [stopChan, h]

/-- What a STOP in ARMED leaves of state `s`. -/
def Disarmed (c : ChanId) (p : Port) (s t : State) : Prop :=
  OnlyChanges (.chan c :: poolParts) s t ∧
  t.chan c = { s.chan c with state := .ready, sendTime := none, nxt := none, failed := some .stopped } ∧
  (∀ y, (s.chan c).nxt = some y → (t.pool.bufs.get y.buf).count = (s.pool.bufs.get y.buf).count - 1) ∧
  OnlyCauses [.channel, .pool] s t ∧ PoolFollows 1 s t ∧ CauseRaised .channel (.channel c (some .stopped)) (fun q => q = p) s t

theorem failChan_toReady {c : ChanId} {p : Port} {s : State} (owner : s.work.owner.get c = some p) :
    Disarmed c p s (failChan c .stopped (toReady c s)) := by
  have ready := toReady_only c s
  have readyCauses : OnlyCauses [.pool] s (toReady c s) := by rw [toReady_eq]; exact dropTemplate_causes _ (modChan c _ s)
  have work : (toReady c s).work = s.work := ready .work (by simp [poolParts, noticeParts])
  have still : (toReady c s).work.owner.get c = some p := by rw [work, owner]
  obtain ⟨only, failed, causes, raised⟩ := failChan_spec (cause := .stopped) still
  have pool : (failChan c .stopped (toReady c s)).pool = (toReady c s).pool := only .pool (by simp)
  refine ⟨?only, ?channel, fun y next => ?released, ?causes, ?pool, fun q => ⟨?_, fun other => ?_⟩⟩
  case only => exact ready.comp only (by simp) (by have := notice_mem p; simp [poolParts, this])
  case channel => rw [failed, toReady_eq, dropTemplate_chan, modChan_chan]
  case released => rw [pool, toReady_eq, dropTemplate_count next, modChan_pool]
  case causes => exact (readyCauses.mono (by simp)).trans (causes.mono (by simp))
  case pool =>
    have start : PoolFollows 0 s s := .start rfl rfl rfl
    refine PoolFollows.failChan ?_ still
    rw [toReady_eq]
    exact (start.modChan c _).dropTemplate (by omega) _
  · rintro rfl
    rw [← (readyCauses q).2 .channel (by decide)]
    exact raised.2.1
  · rw [only (.notice q) (by simpa using other)]
    exact (readyCauses q).2 .channel (by decide)

section
variable {p : Port} {src : Addr} {token : BitVec 32} {c : ChanId} {s t : State} {o : RepOutcome}

theorem runCommand_stop (owner : s.work.owner.get c = some p) (acts : stopChan c (attendedState p src s) = (o, none, t)) :
    runCommand p (.stop (BitVec.ofNat 8 c.val)) (attendedState p src s) = (some (o, chanReply c none (t.chan c)), t) :=
  chanCommand_owner (act := fun ch => stopChan ch (attendedState p src s)) owner acts

theorem runCommand_clear (owner : s.work.owner.get c = some p) (acts : clearChan c (attendedState p src s) = (o, none, t)) :
    runCommand p (.clear (BitVec.ofNat 8 c.val)) (attendedState p src s) = (some (o, chanReply c none (t.chan c)), t) :=
  chanCommand_owner (act := fun ch => clearChan ch (attendedState p src s)) owner acts

end

/-- Settles O48: STOP by the channel's state, and CLEAR, which no state refuses. -/
theorem stopAndClear : Obligations.StopAndClear := by
  unfold Obligations.StopAndClear
  intro p src token c s present owner x
  refine ⟨fun sending => ?sending, fun armed => ?armed, fun idle => ?idle, ?clear⟩
  case sending =>
    exact command_modChan present (runCommand_stop owner (stopChan_sending sending))
  case armed =>
    obtain ⟨only, channel, released, causes, follows, raised⟩ := failChan_toReady (s := attendedState p src s) owner
    obtain ⟨u, ends, frame, kept, all, told, poolTold, answered⟩ := command_told (token := token) present
      (runCommand_stop owner (stopChan_armed armed)) only causes (by simp)
    have chanEnd := kept (.chan c) (by simp [noticeParts])
    have poolEnd : u.pool = (failChan c .stopped (toReady c (attendedState p src s))).pool := kept .pool (by simp [noticeParts])
    refine ⟨u, ends, frame, chanEnd.trans channel, fun t next => ?_, all, poolTold 1 follows.of_attended, fun q => ?_, chanEnd ▸ answered⟩
    · rw [poolEnd]; exact released t next
    · rw [(told q).2 .channel (by decide)]; exact raised q
  case idle => exact command_refused present (runCommand_stop owner (stopChan_idle idle))
  case clear => exact command_modChan present (runCommand_clear owner rfl)

end Sys2Proof
end

section
/-! SUPPORT. A template stored in a buffer taken for it, in place of one held before (R131, R132, R134): the grant or refusal of the buffer, and what the pool and
the channel are once the old template is released; then the statements of LOAD and CHAIN. -/

namespace Sys2Proof

open Sys2Proof.Machine

/-! ## The schedule (R131) -/

theorem clamp_eq (x high : Nat) : max 1 (min x high) = if x < 1 then 1 else if high < x then max 1 high else x := by
  split
  · omega
  · split <;> omega

theorem clampSchedule_eq (tmin tmax n : Word16) : clampSchedule tmin tmax n =
    { tmin := if tmin.toNat < 1 then 1 else if 1000 < tmin.toNat then 1000 else tmin.toNat,
      tmax := if tmax.toNat < 1 then 1 else if 60000 < tmax.toNat then 60000 else tmax.toNat, n := n.toNat } := by
  simp only [clampSchedule, clamp_eq]
  rfl

/-! ## The buffer for a template (R85) -/

/-- The pool after a template command has found it empty: the refusal is counted (R88). -/
def Machine.Pool.emptyRefused (q : Pool) : Pool := { q with emptyRefusals := satInc q.emptyRefusals }

theorem takeBuffer_template_empty {s : State} (frame : List Byte) (empty : s.pool.free = 0) :
    takeBuffer .template frame s = (none, modPool Pool.emptyRefused s) := if_pos empty

/-- A template command may take from the trip reserve, so one free buffer is enough. -/
theorem takeBuffer_template {s : State} {b : BufId} (frame : List Byte) (left : 1 ≤ s.pool.free) (lowest : s.pool.lowestFree = some b) :
    takeBuffer .template frame s = (some b, judgePool (modPool (fun q => q.taken b frame) s)) := by
  rw [takeBuffer, if_neg (by omega), if_neg (by simp [Request.fromReserve]), lowest]

/-! ## A template stored in place of another -/

/-- Buffer `b` is taken for a template, the channel is changed, and the template that its slot held before is released. -/
def storedState (c : ChanId) (b : BufId) (template : List Byte) (f : Channel → Channel) (old : Option Template) (s : State) : State :=
  dropTemplate old (modChan c f (judgePool (modPool (fun q => q.taken b template) s)))

section
variable {c : ChanId} {b : BufId} {template : List Byte} {f : Channel → Channel} {old : Option Template} {s : State}

theorem storedState_only : OnlyChanges (.chan c :: poolParts) s (storedState c b template f old s) :=
  (((modPool_only _ s).comp (judgePool_only _) (by simp [poolParts]) (by simp)).trans ((modChan_only c f _).mono (by simp))).trans
    ((dropTemplate_only old _).mono (by simp))

theorem storedState_causes : OnlyCauses [.pool] s (storedState c b template f old s) :=
  (judgePool_causes (modPool (fun q => q.taken b template) s)).trans (dropTemplate_causes old (modChan c f _))

theorem storedState_chan : (storedState c b template f old s).chan c = f (s.chan c) := by
  have kept : ∀ t, (judgePool t).chan c = t.chan c := fun t => judgePool_only t (.chan c) (by simp [poolParts, noticeParts])
  rw [storedState, dropTemplate_chan, modChan_chan, kept]
  rfl

/-- The buffer stays the new template's, whose only reference the channel holds: a template held before stood in another buffer. -/
theorem storedState_carries (lowest : s.pool.lowestFree = some b) (held : ∀ t, old = some t → (s.pool.bufs.get t.buf).count ≠ 0) :
    Carries 1 b template s (storedState c b template f old s) ∧
      (storedState c b template f old s).pool.bufs.get b = { count := 1, frame := template } := by
  obtain ⟨free, below⟩ := lowestFree_spec lowest
  have start : PoolFollows 0 s (modPool (fun q => q.taken b template) s) := .start rfl rfl rfl
  have taken : Carries 0 b template s (modChan c f (judgePool (modPool (fun q => q.taken b template) s))) :=
    { pool := (start.judge (by omega)).modChan c f
      takes := ⟨free, below, by simp [Pool.taken], by simp [Pool.taken], by simp [Pool.taken], by simp [Pool.taken]⟩
      held := by simp [Pool.taken] }
  unfold storedState
  cases old with
  | none => exact ⟨taken.mono (by omega), by simp [dropTemplate, Pool.taken]⟩
  | some t =>
    have other : b ≠ t.buf := by rintro rfl; exact held t rfl free
    exact ⟨taken.release other (by omega), by simp [dropTemplate, release, Pool.taken, other]⟩

theorem storedState_count {t : Template} (lowest : s.pool.lowestFree = some b) (current : old = some t)
    (held : (s.pool.bufs.get t.buf).count ≠ 0) :
    ((storedState c b template f old s).pool.bufs.get t.buf).count = (s.pool.bufs.get t.buf).count - 1 := by
  obtain ⟨free, -⟩ := lowestFree_spec lowest
  have other : t.buf ≠ b := by rintro rfl; exact held free
  rw [storedState, dropTemplate_count current]
  simp [Pool.taken, other]

/-- How many buffers the release of a slot's template makes free: one if it is the last reference. -/
def Machine.Pool.freedBy (q : Pool) (old : Option Template) : Nat :=
  match old with
  | some t => if (q.bufs.get t.buf).count = 1 then 1 else 0
  | none => 0

/-- The free count: one less for the take, and one more if the old template's buffer is free again. -/
theorem storedState_free (lowest : s.pool.lowestFree = some b) (held : ∀ t, old = some t → (s.pool.bufs.get t.buf).count ≠ 0) :
    (storedState c b template f old s).pool.free =
      s.pool.free - 1 + s.pool.freedBy old := by
  obtain ⟨free, -⟩ := lowestFree_spec lowest
  unfold storedState
  cases old with
  | none => simp [dropTemplate, Pool.taken, Pool.freedBy]
  | some t =>
    have other : t.buf ≠ b := by rintro rfl; exact held t rfl free
    simp [dropTemplate, release, Pool.released_free, Pool.taken, Pool.freedBy, other]

/-- The one take can make an AMPLE pool LOW, and the one release after it can undo no such change (R87). -/
theorem storedState_low (sound : PoolSound s) (left : 1 ≤ s.pool.free) :
    (storedState c b template f old s).pool.low = true ↔ s.pool.low = true ∨ s.pool.free = 33 := by
  obtain ⟨-, low, ample, -⟩ := sound
  have taken : (judgePool (modPool (fun q => q.taken b template) s)).pool.low = true ↔ s.pool.low = true ∨ s.pool.free = 33 := by
    rw [judgePool_low_iff]
    show s.pool.free - 1 ≤ 32 ∨ (s.pool.low = true ∧ s.pool.free - 1 ≤ 64) ↔ _
    cases was : s.pool.low <;> simp [was] at low ample ⊢ <;> omega
  unfold storedState
  cases old with
  | none => exact taken
  | some t =>
    obtain ⟨same, -, -, -, least, most⟩ := (judgePool (modPool (fun q => q.taken b template) s)).pool.released_figures t.buf
    simp only [judgePool_free, modPool_pool, Pool.taken] at least most
    rw [dropTemplate, release, judgePool_low_iff]
    simp only [modPool_pool, modChan_pool, same, taken]
    cases was : s.pool.low <;> simp [was, Pool.taken] at low ample ⊢ <;> omega

end

/-! ## The event of a template command (R87, R130) -/

/-- From `s` a template command has stored its template in buffer `b` and changed channel `c` by `f`, in place of the template `old` of one of its slots: what the
event leaves in `u`, with POOL told of the free count that the release of `old` has left. -/
structure TemplateStored (c : ChanId) (p : Port) (b : BufId) (template : List Byte) (f : Channel → Channel) (old : Option Template) (s u : State) :
    Prop where
  only : OnlyChanges (.chan c :: .port p :: .queues p :: poolParts) s u
  takes : Takes b template s u
  stored : u.pool.bufs.get b = { count := 1, frame := template }
  released : ∀ t, old = some t → (u.pool.bufs.get t.buf).count = (s.pool.bufs.get t.buf).count - 1
  chan : u.chan c = f (s.chan c)
  free : u.pool.free = s.pool.free - 1 + s.pool.freedBy old
  low : u.pool.low = true ↔ s.pool.low = true ∨ s.pool.free = 33
  causes : OnlyCauses [.pool] s u
  told : PoolTold s u

section
variable {p : Port} {src : Addr} {token : BitVec 32} {cmd : Command} {c : ChanId} {b : BufId} {template : List Byte} {sched : Schedule}
  {f : Channel → Channel} {old : Option Template} {s : State} {o : RepOutcome} {body : ReplyBody}

theorem command_stored (present : Commands p s) (sound : PoolSound s) (left : 1 ≤ s.pool.free) (lowest : s.pool.lowestFree = some b)
    (held : ∀ t, old = some t → (s.pool.bufs.get t.buf).count ≠ 0)
    (run : runCommand p cmd (attendedState p src s) =
      (some (.done, chanReply c (some sched) ((storedState c b template f old (attendedState p src s)).chan c)),
        storedState c b template f old (attendedState p src s))) :
    ∃ u, commandEvent p src token cmd s = .next (presentAll u) ∧ TemplateStored c p b template f old s u ∧
      Answered p src token cmd.code .done (chanReply c (some sched) (u.chan c)) s u := by
  obtain ⟨carries, stored⟩ := storedState_carries (c := c) (template := template) (f := f) (s := attendedState p src s) lowest held
  obtain ⟨u, ends, frame, kept, causes, -, told, answered⟩ := command_told (token := token) present run storedState_only storedState_causes (by simp)
  have channel : u.chan c = (storedState c b template f old (attendedState p src s)).chan c := kept (.chan c) (by simp [noticeParts])
  have pool : u.pool = (storedState c b template f old (attendedState p src s)).pool := kept .pool (by simp [noticeParts])
  refine ⟨u, ends, ⟨frame, ?takes, ?stored, fun t current => ?released, channel.trans storedState_chan, ?free, ?low, causes,
    told 1 carries.pool.of_attended sound⟩, channel ▸ answered⟩
  case takes =>
    have takes : Takes b template s (storedState c b template f old (attendedState p src s)) := carries.takes
    rw [Takes, pool]
    exact takes
  case stored => rw [pool, stored]
  case released => rw [pool]; exact storedState_count (s := attendedState p src s) lowest current (held t current)
  case free => rw [pool]; exact storedState_free (s := attendedState p src s) lowest held
  case low => rw [pool]; exact storedState_low (s := attendedState p src s) sound left

/-- A template command that the empty pool refuses changes of the pool the count of such refusals alone (R88). -/
theorem command_noBuffer (present : Commands p s)
    (run : runCommand p cmd (attendedState p src s) = (some (o, body), modPool Pool.emptyRefused (attendedState p src s))) :
    ∃ u, commandEvent p src token cmd s = .next (presentAll u) ∧ OnlyChanges [.port p, .queues p, .pool] s u ∧
      u.pool = { s.pool with emptyRefusals := satInc s.pool.emptyRefusals } ∧ Answered p src token cmd.code o body s u := by
  have only := modPool_only Pool.emptyRefused (attendedState p src s)
  obtain ⟨u, ends, frame, kept, answered⟩ := command_answered (token := token) (cs := []) present run only (by simp) (by simp) (by simp) (by simp)
    (OnlyCauses.of_only only (by simp)) (by simp)
  exact ⟨u, ends, frame, kept .pool (by simp), answered⟩

end

/-! ## LOAD (R132) -/

section
variable {c : ChanId} {sc : Schedule} {template : List Byte} {s : State}

theorem loadChan_state (other : (s.chan c).state ≠ .empty) (running : (s.chan c).state ≠ .ready) : loadChan c sc template s = (.state, none, s) :=
  if_pos ⟨other, running⟩

theorem loadChan_short (loadable : (s.chan c).state = .empty ∨ (s.chan c).state = .ready) (short : template.length < 64) :
    loadChan c sc template s = (.badValue, none, s) := by
  rw [loadChan, if_neg (by tauto), if_pos short]

theorem loadChan_noBuffer (loadable : (s.chan c).state = .empty ∨ (s.chan c).state = .ready) (long : 64 ≤ template.length) (empty : s.pool.free = 0) :
    loadChan c sc template s = (.noBuffer, none, modPool Pool.emptyRefused s) := by
  rw [loadChan, if_neg (by tauto), if_neg (by omega), takeBuffer_template_empty template empty]

/-- The channel loaded with a template (R132). -/
def Machine.Channel.loaded (b : BufId) (sc : Schedule) (x : Channel) : Channel := { x with cur := some { buf := b, sched := sc }, state := .ready }

theorem loadChan_done {b : BufId} (loadable : (s.chan c).state = .empty ∨ (s.chan c).state = .ready) (long : 64 ≤ template.length)
    (left : 1 ≤ s.pool.free) (lowest : s.pool.lowestFree = some b) :
    loadChan c sc template s = (.done, some sc, storedState c b template (Channel.loaded b sc) (s.chan c).cur s) := by
  rw [loadChan, if_neg (by tauto), if_neg (by omega), takeBuffer_template template left lowest, storedState]
  rfl

end

/-- A LOAD whose template is well formed runs `loadChan` at the owner's channel, with the clamped schedule. -/
theorem runCommand_load {p : Port} {src : Addr} {c : ChanId} {tmin tmax n len : Word16} {data template : List Byte} {s t : State} {o : RepOutcome}
    {sched : Option Schedule} (owner : s.work.owner.get c = some p) (is : TemplateIs template len data)
    (acts : loadChan c (clampSchedule tmin tmax n) template (attendedState p src s) = (o, sched, t)) :
    runCommand p (.load (BitVec.ofNat 8 c.val) tmin tmax n len data) (attendedState p src s) = (some (o, chanReply c sched (t.chan c)), t) :=
  templateCommand_owner (act := fun ch t => loadChan ch (clampSchedule tmin tmax n) t (attendedState p src s)) owner is acts

/-- Settles O45: LOAD by the channel's state, the template's length and the free count. -/
theorem loadStores : Obligations.LoadStores := by
  unfold Obligations.LoadStores
  intro p src token c tmin tmax n len data template s present owner is sound i x sched
  have clamped : clampSchedule tmin tmax n = sched := clampSchedule_eq tmin tmax n
  refine ⟨fun other running => ?state, fun loadable short => ?short, fun loadable long empty => ?noBuffer, fun loadable long left held => ?done⟩
  case state => exact command_refused present (runCommand_load owner is (loadChan_state other running))
  case short => exact command_refused present (runCommand_load owner is (loadChan_short loadable short))
  case noBuffer => exact command_noBuffer present (runCommand_load owner is (loadChan_noBuffer loadable long empty))
  case done =>
    obtain ⟨b, lowest⟩ := lowestFree_of_sound sound left
    obtain ⟨u, ends, h, answered⟩ := command_stored (token := token) present sound left lowest held
      (runCommand_load owner is (loadChan_done loadable long left lowest))
    rw [clamped] at h answered
    exact ⟨u, b, ends, h.only, h.takes, h.stored, h.released, h.chan, h.free, h.causes, h.told, h.low, answered⟩

/-! ## CHAIN (R134) -/

section
variable {c : ChanId} {sc : Schedule} {template : List Byte} {s : State}

theorem chainTaken_iff (c : ChanId) (s : State) : chainTaken c s = true ↔
    ((s.chan c).state = .sending ∨ (s.chan c).state = .armed) ∧ (∃ t, (s.chan c).cur = some t ∧ 1 ≤ t.sched.n) ∧
      ∀ n, s.work.trigger.get c ≠ .level n := by
  cases current : (s.chan c).cur with
  | none => simp [chainTaken, current]
  | some t => cases trigger : s.work.trigger.get c <;> simp [chainTaken, current, trigger]

/-- A template and a schedule that a CHAIN stores (R134). -/
def ChainFits (sc : Schedule) (template : List Byte) (s : State) : Prop :=
  64 ≤ template.length ∧ frameType template ∈ s.work.tripSet ∧ sc.tmin ≤ sc.tmax

theorem chainFits_iff (sc : Schedule) (template : List Byte) (s : State) :
    ChainFits sc template s ↔ ¬ (template.length < 64 ∨ isTripType s template = false ∨ sc.tmax < sc.tmin) := by
  simp only [ChainFits, not_or, Nat.not_lt, Bool.not_eq_false, isTripType_iff]

theorem chainChan_state (closed : ¬ chainTaken c s = true) : chainChan c sc template s = (.state, none, s) :=
  if_pos (by simpa using closed)

theorem chainChan_unfit (taken : chainTaken c s = true) (unfit : ¬ ChainFits sc template s) : chainChan c sc template s = (.badValue, none, s) := by
  rw [chainFits_iff, not_not] at unfit
  rw [chainChan, if_neg (by simp [taken]), if_pos unfit]

theorem chainChan_noBuffer (taken : chainTaken c s = true) (fits : ChainFits sc template s) (empty : s.pool.free = 0) :
    chainChan c sc template s = (.noBuffer, none, modPool Pool.emptyRefused s) := by
  rw [chainFits_iff] at fits
  rw [chainChan, if_neg (by simp [taken]), if_neg fits, takeBuffer_template_empty template empty]

/-- The channel with a next template (R134). -/
def Machine.Channel.chainedTo (b : BufId) (sc : Schedule) (x : Channel) : Channel := { x with nxt := some { buf := b, sched := sc } }

theorem chainChan_done {b : BufId} (taken : chainTaken c s = true) (fits : ChainFits sc template s) (left : 1 ≤ s.pool.free)
    (lowest : s.pool.lowestFree = some b) :
    chainChan c sc template s = (.done, some sc, storedState c b template (Channel.chainedTo b sc) (s.chan c).nxt s) := by
  rw [chainFits_iff] at fits
  rw [chainChan, if_neg (by simp [taken]), if_neg fits, takeBuffer_template template left lowest, storedState]
  rfl

end

/-- A CHAIN whose template is well formed runs `chainChan` at the owner's channel, with the clamped schedule. -/
theorem runCommand_chain {p : Port} {src : Addr} {c : ChanId} {tmin tmax n len : Word16} {data template : List Byte} {s t : State} {o : RepOutcome}
    {sched : Option Schedule} (owner : s.work.owner.get c = some p) (is : TemplateIs template len data)
    (acts : chainChan c (clampSchedule tmin tmax n) template (attendedState p src s) = (o, sched, t)) :
    runCommand p (.chain (BitVec.ofNat 8 c.val) tmin tmax n len data) (attendedState p src s) = (some (o, chanReply c sched (t.chan c)), t) :=
  templateCommand_owner (act := fun ch t => chainChan ch (clampSchedule tmin tmax n) t (attendedState p src s)) owner is acts

/-- Settles O50: CHAIN by whether the burst can be chained, by the template and its schedule, and by the free count. -/
theorem chainQueues : Obligations.ChainQueues := by
  unfold Obligations.ChainQueues
  intro p src token c tmin tmax n len data template s present owner is sound i x sched taken good
  have clamped : clampSchedule tmin tmax n = sched := clampSchedule_eq tmin tmax n
  have takes : chainTaken c (attendedState p src s) = true ↔ taken := chainTaken_iff c (attendedState p src s)
  have fits : ChainFits (clampSchedule tmin tmax n) template (attendedState p src s) ↔ good := by rw [clamped]; exact Iff.rfl
  refine ⟨fun closed => ?state, fun chainable unfit => ?unfit, fun chainable fit empty => ?noBuffer, fun chainable fit left held => ?done⟩
  case state => exact command_refused present (runCommand_chain owner is (chainChan_state (takes.not.2 closed)))
  case unfit => exact command_refused present (runCommand_chain owner is (chainChan_unfit (takes.2 chainable) (fits.not.2 unfit)))
  case noBuffer => exact command_noBuffer present (runCommand_chain owner is (chainChan_noBuffer (takes.2 chainable) (fits.2 fit) empty))
  case done =>
    obtain ⟨b, lowest⟩ := lowestFree_of_sound sound left
    obtain ⟨u, ends, h, answered⟩ := command_stored (token := token) present sound left lowest held
      (runCommand_chain owner is (chainChan_done (takes.2 chainable) (fits.2 fit) left lowest))
    rw [clamped] at h answered
    exact ⟨u, b, ends, h.only, h.takes, h.stored, h.released, h.causes, h.told, h.chan, answered⟩

end Sys2Proof
end

section
/-! SUPPORT. ENABLE and ACK (R172, R174): the enable set replaced, the slot emptied, what a cause code names, and how the event of a command ends that changes the
notice state of its port alone; then the statement of the two. -/

namespace Sys2Proof

open Sys2Proof.Machine

/-! ## A command that changes its port's notice state alone -/

/-- POOL's subject must be kept: the end of the event would take a new one for POOL raised by the command (R87). -/
theorem command_modNotice {p : Port} {src : Addr} {token : BitVec 32} {cmd : Command} {s : State} {o : RepOutcome} {body : ReplyBody}
    {f : NoticeUnit → NoticeUnit} (present : Commands p s) (keeps : (f (s.notice p)).poolSubject = (s.notice p).poolSubject)
    (run : runCommand p cmd (attendedState p src s) = (some (o, body), modNotice p f (attendedState p src s))) :
    ∃ u, commandEvent p src token cmd s = .next (presentAll u) ∧ OnlyChanges [.port p, .queues p, .notice p] s u ∧ u.notice p = f (s.notice p) ∧
      Answered p src token cmd.code o body s u := by
  have outcome : (runCommand p cmd (attendedState p src s)).1 = some (o, body) := by rw [run]
  have after : (runCommand p cmd (attendedState p src s)).2 = modNotice p f (attendedState p src s) := by rw [run]
  have only := modNotice_only p f (attendedState p src s)
  have subjects : ∀ q, ((modNotice p f (attendedState p src s)).notice q).poolSubject = (s.notice q).poolSubject := by
    intro q
    by_cases own : q = p
    · subst own; simpa using keeps
    · simp [own]
  obtain ⟨u, ends, answered, rfl, frame⟩ := commandEvent_answered p src token cmd s present o body [.notice p] outcome
    (by rw [after, only.port (by simp) (by simp), attendedState_port]) (after ▸ only) (by simp) (by simp) (after ▸ subjects)
  refine ⟨_, ends, frame, ?_, answered⟩
  have kept := joinReply_only p src token cmd.code o body (modNotice p f (attendedState p src s)) (.notice p) (by simp)
  rw [after]
  exact Eq.trans kept (by simp)

/-! ## The enable set (R174) -/

/-- The notice state with its enable set replaced by a coded one: bit (cause code − 1). -/
def Machine.NoticeUnit.withEnabled (w : Word16) (n : NoticeUnit) : NoticeUnit :=
  { n with causes := n.causes.mapFinIdx (fun i r _ => { r with enabled := w.getLsbD i }) }

@[simp] theorem Machine.NoticeUnit.withEnabled_slot (w : Word16) (n : NoticeUnit) : (n.withEnabled w).slot = n.slot := rfl

@[simp] theorem Machine.NoticeUnit.withEnabled_of (w : Word16) (n : NoticeUnit) (c : Cause) :
    (n.withEnabled w).of c = { n.of c with enabled := w.getLsbD c.idx.val } := by
  simp [NoticeUnit.of, NoticeUnit.withEnabled, Vector.get_eq_getElem]

@[simp] theorem Machine.NoticeUnit.withEnabled_poolSubject (w : Word16) (n : NoticeUnit) : (n.withEnabled w).poolSubject = n.poolSubject := by
  simp [← NoticeUnit.of_pool_subject]

theorem enableAt_known {p : Port} {w : Word16} {s : State} (known : w.toNat < 4096) : enableAt p w s =
    { outcome := .done, body := .enable (Cause.all.filter (fun c => w.getLsbD c.idx.val)), state := modNotice p (NoticeUnit.withEnabled w) s } := by
  have set : ((modNotice p (NoticeUnit.withEnabled w) s).notice p).causesWith CauseRecord.enabled =
      Cause.all.filter (fun c => w.getLsbD c.idx.val) := by simp [NoticeUnit.causesWith]
  rw [← set]
  exact if_pos known

theorem enableAt_unknown {p : Port} {w : Word16} {s : State} (unknown : 4096 ≤ w.toNat) :
    enableAt p w s = { outcome := .badValue, body := .empty, state := s } := if_neg (by omega)

/-! ## What a cause code names (R178) -/

theorem Machine.Cause.ofCode_idx (c : Cause) : Cause.ofCode (c.idx.val + 1) = some c := by cases c <;> rfl

theorem Machine.Cause.ofCode_beyond {n : Nat} (beyond : 12 < n) : Cause.ofCode n = none := by
  have past : Cause.all.length ≤ n - 1 := Nat.le_sub_one_of_lt beyond
  rw [Cause.ofCode, if_neg (by omega), List.getElem?_eq_none past]

/-! ## ACK by what its code names (R172) -/

section
variable {p : Port} {code : Byte} {c : Cause} {s : State}

theorem ackAt_zero (zero : code = 0) : ackAt p code s = (.done, emptySlot p s) := if_pos zero

/-- A code that is not 0 is judged by the cause that it names. -/
theorem ackAt_named (named : code.toNat = c.idx.val + 1) :
    ackAt p code s = if ∃ k, (s.notice p).slot = some (c, k) then (.done, emptySlot p s) else (.state, s) := by
  have nonzero : code ≠ 0#8 := by rintro rfl; simp at named
  rw [ackAt, if_neg nonzero, named, Cause.ofCode_idx]
  cases slot : (s.notice p).slot with
  | none => simp
  | some held => simp [Prod.ext_iff]

theorem ackAt_beyond (beyond : 12 < code.toNat) : ackAt p code s = (.badValue, s) := by
  have nonzero : code ≠ 0#8 := by rintro rfl; simp at beyond
  rw [ackAt, if_neg nonzero, Cause.ofCode_beyond beyond]

end

/-! ## The runs of the two commands -/

theorem runCommand_enable {p : Port} {causes : Word16} {s : State} {r : Answer} (acts : enableAt p causes s = r) :
    runCommand p (.enable causes) s = (some (r.outcome, r.body), r.state) := by subst acts; rfl

theorem runCommand_ack {p : Port} {code : Byte} {s t : State} {o : RepOutcome} (acts : ackAt p code s = (o, t)) :
    runCommand p (.ack code) s = (some (o, .empty), t) := by simp only [runCommand, acts]

/-- Settles O59: ENABLE by whether its set names the twelve alone, and ACK by what its code names. -/
theorem enableAndAck : Obligations.EnableAndAck := by
  unfold Obligations.EnableAndAck
  intro p src token causes code s present
  refine ⟨fun known => ?enabled, fun unknown => ?unknown, fun acked => ?acked, fun c named other => ?other, fun beyond => ?beyond⟩
  case enabled =>
    obtain ⟨u, ends, frame, notice, answered⟩ := command_modNotice (src := src) (token := token) present (by simp)
      (runCommand_enable (enableAt_known known))
    exact ⟨u, ends, frame, by simp [notice], by simp [notice], answered⟩
  case unknown => exact command_refused present (runCommand_enable (enableAt_unknown unknown))
  case acked =>
    have empties : ackAt p code (attendedState p src s) = (.done, emptySlot p (attendedState p src s)) := by
      rcases acked with zero | ⟨c, k, slot, named⟩
      · exact ackAt_zero zero
      · rw [ackAt_named named, if_pos ⟨k, slot⟩]
    exact command_modNotice present rfl (runCommand_ack empties)
  case other =>
    have stays : ackAt p code (attendedState p src s) = (.state, attendedState p src s) := by
      rw [ackAt_named named, if_neg (fun ⟨k, slot⟩ => other k slot)]
    exact command_refused present (runCommand_ack stays)
  case beyond => exact command_refused present (runCommand_ack (ackAt_beyond beyond))

end Sys2Proof
end
